-- ==== Sys2Proof/Word.lean ====
section
/-! DEFINITION. The word types of the core (R15, 00_scope.md) and nothing else: what is computed with them
(halves, sign extension, address arithmetic) is in Machine/Ops.lean and Machine/Flags.lean. -/

namespace Sys2Proof

/-- A byte: 8 bits (R15). -/
abbrev Byte := BitVec 8

/-- A word: 16 bits (R15). -/
abbrev Word := BitVec 16

/-- The operand width of an instruction or of a port access: 8 or 16 bits (R15, R84). -/
inductive Width where
  | byte
  | word
  deriving DecidableEq, Repr

end Sys2Proof
end

