-- ==== Sys2Proof/Config.lean ====
section
/-! DEFINITION. What one instance of the core fixes (R7, 00_scope.md) and the free values of the spec.
The five plain parameters are a record that State carries unchanged, so that a statement over all states is a
statement over all parameters; the draws (R41) and the port answers (R86) are opaque constants. -/

namespace Sys2Proof

/-- The architecture mode (R8). It selects exactly three differences: the word at offset 0xFFFF (R70, R71), the
mask of a shift count (R243) and the value PUSH SP stores (R343). -/
inductive Arch where
  | a8086
  | a80186
  deriving DecidableEq, Repr

namespace Config

/-- The parameters of R7 that are plain data. They are fixed when the core is constructed and no step changes them. -/
structure Params where
  /-- `ARCH` (R8). -/
  arch : Arch
  /-- `RAM_REQUEST`: the number of bytes the host asks for; the array's size follows from it by R9. -/
  ramRequest : Nat
  /-- `FLAGS_RESET`: the packed FLAGS word that reset loads (R45). -/
  flagsReset : Word
  /-- `STRICT_SOURCE_SET`: when true every tier 2 instruction raises UnimplementedOpcode (R116). -/
  strictSourceSet : Bool
  /-- `OVERRIDE_PERSISTS_IN_REP`: whether a segment override lasts through all iterations (R373). -/
  overridePersistsInRep : Bool
  deriving DecidableEq, Repr

/-- R7 and R45: all nine named flags of `FLAGS_RESET` are 0. -/
abbrev Params.wf (p : Params) : Prop := p.flagsReset &&& 0x0FD5#16 = 0#16

/-- The parameters of the instance that `State.reset` describes. DESIGN CHOICE (log 3): `ARCH` and `RAM_REQUEST`
have no default in the spec; `FLAGS_RESET` = 0x0002 is the value R45 suggests and the two Booleans are the defaults of R7.
Unsafe for a statement about `State.reset` alone: another instance has other parameters. -/
def launch : Params where
  arch := .a8086
  ramRequest := 0x100000
  flagsReset := 0x0002
  strictSourceSet := false
  overridePersistsInRep := true

/-- The k-th draw of the run (R41): a value the spec leaves free. It has no body, so nothing can be proved of its value
(log 4). Safe: what is proved holds for every choice. -/
opaque draw : Nat → Bool

/-- `PortIn` (R7, R86): the backend's answer to a read of `port` at a width, when `k` port accesses came before. It has no
body (log 4). The reader truncates it to the width. Safe. -/
opaque portIn (port : Word) (width : Width) (k : Nat) : Nat

end Config

end Sys2Proof
end

