-- ==== Sys2Proof/Syntax.lean ====
section
/-! DEFINITION. The instructions as syntax: operand forms (40_operands_modrm.md) and one constructor per row of
spec/opcode_table.json, in the order of the spec's families. The rows named (none) are the two constructors
unimplementedOpcode and invalidOperandEncoding, which carry the bytes that are reported. A prefix byte is a constructor of
its own: it only records itself in the decode context, and the step goes on with the byte after it (R104, R106). In the last
family the constructors with operands stand first, because Lean's compiled code admits operands only up to constructor 243. -/

namespace Sys2Proof

/-- The eight general registers by index 0 to 7 (R21). -/
inductive Reg16 where
  | ax
  | cx
  | dx
  | bx
  | sp
  | bp
  | si
  | di
  deriving DecidableEq, Repr

/-- The eight byte registers by index 0 to 7 (R23). -/
inductive Reg8 where
  | al
  | cl
  | dl
  | bl
  | ah
  | ch
  | dh
  | bh
  deriving DecidableEq, Repr

/-- The four segment registers an encoding can name, by number 0 to 3 (R27, R122). -/
inductive SReg where
  | es
  | cs
  | ss
  | ds
  deriving DecidableEq, Repr

/-- The register part of a memory form, by rm value 0 to 7 (R143). -/
inductive Base where
  | bxSi
  | bxDi
  | bpSi
  | bpDi
  | si
  | di
  | bp
  | bx
  deriving DecidableEq, Repr

/-- The displacement of a memory form: mod = 0, 1, 2 (R112). -/
inductive Disp where
  | none
  | d8 (d : Byte)
  | d16 (d : Word)
  deriving DecidableEq, Repr

/-- A ModR/M memory form (R143): the direct 16-bit offset, or registers with a displacement. -/
inductive MemRef where
  | direct (d : Word)
  | based (b : Base) (d : Disp)
  deriving DecidableEq, Repr

/-- An `E` operand: a register (mod = 3) or a memory form (R141, R142). -/
inductive Rm (ρ : Type) where
  | reg (r : ρ)
  | mem (m : MemRef)
  deriving DecidableEq, Repr

/-- The instructions, one constructor per row of the opcode table. -/
inductive Instr where
  -- Binary ALU, TEST, INC, DEC, NOT, NEG (41_alu_binary.md)
  /-- R180, `00 /r`: ADD Eb,Gb. -/
  | addEbGb (e : Rm Reg8) (g : Reg8)
  /-- R180, `01 /r`: ADD Ev,Gv. -/
  | addEvGv (e : Rm Reg16) (g : Reg16)
  /-- R180, `02 /r`: ADD Gb,Eb. -/
  | addGbEb (g : Reg8) (e : Rm Reg8)
  /-- R180, `03 /r`: ADD Gv,Ev. -/
  | addGvEv (g : Reg16) (e : Rm Reg16)
  /-- R180, `04 ib`: ADD AL,Ib. -/
  | addAlIb (imm : Byte)
  /-- R180, `05 iw`: ADD AX,Iv. -/
  | addAxIv (imm : Word)
  /-- R181, `08 /r`: OR Eb,Gb. -/
  | orEbGb (e : Rm Reg8) (g : Reg8)
  /-- R181, `09 /r`: OR Ev,Gv. -/
  | orEvGv (e : Rm Reg16) (g : Reg16)
  /-- R181, `0A /r`: OR Gb,Eb. -/
  | orGbEb (g : Reg8) (e : Rm Reg8)
  /-- R181, `0B /r`: OR Gv,Ev. -/
  | orGvEv (g : Reg16) (e : Rm Reg16)
  /-- R181, `0C ib`: OR AL,Ib. -/
  | orAlIb (imm : Byte)
  /-- R181, `0D iw`: OR AX,Iv. -/
  | orAxIv (imm : Word)
  /-- R182, `10 /r`: ADC Eb,Gb. -/
  | adcEbGb (e : Rm Reg8) (g : Reg8)
  /-- R182, `11 /r`: ADC Ev,Gv. -/
  | adcEvGv (e : Rm Reg16) (g : Reg16)
  /-- R182, `12 /r`: ADC Gb,Eb. -/
  | adcGbEb (g : Reg8) (e : Rm Reg8)
  /-- R182, `13 /r`: ADC Gv,Ev. -/
  | adcGvEv (g : Reg16) (e : Rm Reg16)
  /-- R182, `14 ib`: ADC AL,Ib. -/
  | adcAlIb (imm : Byte)
  /-- R182, `15 iw`: ADC AX,Iv. -/
  | adcAxIv (imm : Word)
  /-- R183, `18 /r`: SBB Eb,Gb. -/
  | sbbEbGb (e : Rm Reg8) (g : Reg8)
  /-- R183, `19 /r`: SBB Ev,Gv. -/
  | sbbEvGv (e : Rm Reg16) (g : Reg16)
  /-- R183, `1A /r`: SBB Gb,Eb. -/
  | sbbGbEb (g : Reg8) (e : Rm Reg8)
  /-- R183, `1B /r`: SBB Gv,Ev. -/
  | sbbGvEv (g : Reg16) (e : Rm Reg16)
  /-- R183, `1C ib`: SBB AL,Ib. -/
  | sbbAlIb (imm : Byte)
  /-- R183, `1D iw`: SBB AX,Iv. -/
  | sbbAxIv (imm : Word)
  /-- R184, `20 /r`: AND Eb,Gb. -/
  | andEbGb (e : Rm Reg8) (g : Reg8)
  /-- R184, `21 /r`: AND Ev,Gv. -/
  | andEvGv (e : Rm Reg16) (g : Reg16)
  /-- R184, `22 /r`: AND Gb,Eb. -/
  | andGbEb (g : Reg8) (e : Rm Reg8)
  /-- R184, `23 /r`: AND Gv,Ev. -/
  | andGvEv (g : Reg16) (e : Rm Reg16)
  /-- R184, `24 ib`: AND AL,Ib. -/
  | andAlIb (imm : Byte)
  /-- R184, `25 iw`: AND AX,Iv. -/
  | andAxIv (imm : Word)
  /-- R185, `28 /r`: SUB Eb,Gb. -/
  | subEbGb (e : Rm Reg8) (g : Reg8)
  /-- R185, `29 /r`: SUB Ev,Gv. -/
  | subEvGv (e : Rm Reg16) (g : Reg16)
  /-- R185, `2A /r`: SUB Gb,Eb. -/
  | subGbEb (g : Reg8) (e : Rm Reg8)
  /-- R185, `2B /r`: SUB Gv,Ev. -/
  | subGvEv (g : Reg16) (e : Rm Reg16)
  /-- R185, `2C ib`: SUB AL,Ib. -/
  | subAlIb (imm : Byte)
  /-- R185, `2D iw`: SUB AX,Iv. -/
  | subAxIv (imm : Word)
  /-- R186, `30 /r`: XOR Eb,Gb. -/
  | xorEbGb (e : Rm Reg8) (g : Reg8)
  /-- R186, `31 /r`: XOR Ev,Gv. -/
  | xorEvGv (e : Rm Reg16) (g : Reg16)
  /-- R186, `32 /r`: XOR Gb,Eb. -/
  | xorGbEb (g : Reg8) (e : Rm Reg8)
  /-- R186, `33 /r`: XOR Gv,Ev. -/
  | xorGvEv (g : Reg16) (e : Rm Reg16)
  /-- R186, `34 ib`: XOR AL,Ib. -/
  | xorAlIb (imm : Byte)
  /-- R186, `35 iw`: XOR AX,Iv. -/
  | xorAxIv (imm : Word)
  /-- R187, `38 /r`: CMP Eb,Gb. -/
  | cmpEbGb (e : Rm Reg8) (g : Reg8)
  /-- R187, `39 /r`: CMP Ev,Gv. -/
  | cmpEvGv (e : Rm Reg16) (g : Reg16)
  /-- R187, `3A /r`: CMP Gb,Eb. -/
  | cmpGbEb (g : Reg8) (e : Rm Reg8)
  /-- R187, `3B /r`: CMP Gv,Ev. -/
  | cmpGvEv (g : Reg16) (e : Rm Reg16)
  /-- R187, `3C ib`: CMP AL,Ib. -/
  | cmpAlIb (imm : Byte)
  /-- R187, `3D iw`: CMP AX,Iv. -/
  | cmpAxIv (imm : Word)
  /-- R180, R188, `80 /0 ib`: ADD Eb,Ib. -/
  | addEbIb (e : Rm Reg8) (imm : Byte)
  /-- R180, R188, `81 /0 iw`: ADD Ev,Iv. -/
  | addEvIv (e : Rm Reg16) (imm : Word)
  /-- R180, R188, `82 /0 ib`: ADD Eb,Ib. -/
  | addEbIb82 (e : Rm Reg8) (imm : Byte)
  /-- R180, R188, `83 /0 ib`: ADD Ev,Ibs. -/
  | addEvIbs (e : Rm Reg16) (imm : Byte)
  /-- R181, R188, `80 /1 ib`: OR Eb,Ib. -/
  | orEbIb (e : Rm Reg8) (imm : Byte)
  /-- R181, R188, `81 /1 iw`: OR Ev,Iv. -/
  | orEvIv (e : Rm Reg16) (imm : Word)
  /-- R181, R188, `82 /1 ib`: OR Eb,Ib. -/
  | orEbIb82 (e : Rm Reg8) (imm : Byte)
  /-- R181, R188, `83 /1 ib`: OR Ev,Ibs. -/
  | orEvIbs (e : Rm Reg16) (imm : Byte)
  /-- R182, R188, `80 /2 ib`: ADC Eb,Ib. -/
  | adcEbIb (e : Rm Reg8) (imm : Byte)
  /-- R182, R188, `81 /2 iw`: ADC Ev,Iv. -/
  | adcEvIv (e : Rm Reg16) (imm : Word)
  /-- R182, R188, `82 /2 ib`: ADC Eb,Ib. -/
  | adcEbIb82 (e : Rm Reg8) (imm : Byte)
  /-- R182, R188, `83 /2 ib`: ADC Ev,Ibs. -/
  | adcEvIbs (e : Rm Reg16) (imm : Byte)
  /-- R183, R188, `80 /3 ib`: SBB Eb,Ib. -/
  | sbbEbIb (e : Rm Reg8) (imm : Byte)
  /-- R183, R188, `81 /3 iw`: SBB Ev,Iv. -/
  | sbbEvIv (e : Rm Reg16) (imm : Word)
  /-- R183, R188, `82 /3 ib`: SBB Eb,Ib. -/
  | sbbEbIb82 (e : Rm Reg8) (imm : Byte)
  /-- R183, R188, `83 /3 ib`: SBB Ev,Ibs. -/
  | sbbEvIbs (e : Rm Reg16) (imm : Byte)
  /-- R184, R188, `80 /4 ib`: AND Eb,Ib. -/
  | andEbIb (e : Rm Reg8) (imm : Byte)
  /-- R184, R188, `81 /4 iw`: AND Ev,Iv. -/
  | andEvIv (e : Rm Reg16) (imm : Word)
  /-- R184, R188, `82 /4 ib`: AND Eb,Ib. -/
  | andEbIb82 (e : Rm Reg8) (imm : Byte)
  /-- R184, R188, `83 /4 ib`: AND Ev,Ibs. -/
  | andEvIbs (e : Rm Reg16) (imm : Byte)
  /-- R185, R188, `80 /5 ib`: SUB Eb,Ib. -/
  | subEbIb (e : Rm Reg8) (imm : Byte)
  /-- R185, R188, `81 /5 iw`: SUB Ev,Iv. -/
  | subEvIv (e : Rm Reg16) (imm : Word)
  /-- R185, R188, `82 /5 ib`: SUB Eb,Ib. -/
  | subEbIb82 (e : Rm Reg8) (imm : Byte)
  /-- R185, R188, `83 /5 ib`: SUB Ev,Ibs. -/
  | subEvIbs (e : Rm Reg16) (imm : Byte)
  /-- R186, R188, `80 /6 ib`: XOR Eb,Ib. -/
  | xorEbIb (e : Rm Reg8) (imm : Byte)
  /-- R186, R188, `81 /6 iw`: XOR Ev,Iv. -/
  | xorEvIv (e : Rm Reg16) (imm : Word)
  /-- R186, R188, `82 /6 ib`: XOR Eb,Ib. -/
  | xorEbIb82 (e : Rm Reg8) (imm : Byte)
  /-- R186, R188, `83 /6 ib`: XOR Ev,Ibs. -/
  | xorEvIbs (e : Rm Reg16) (imm : Byte)
  /-- R187, R188, `80 /7 ib`: CMP Eb,Ib. -/
  | cmpEbIb (e : Rm Reg8) (imm : Byte)
  /-- R187, R188, `81 /7 iw`: CMP Ev,Iv. -/
  | cmpEvIv (e : Rm Reg16) (imm : Word)
  /-- R187, R188, `82 /7 ib`: CMP Eb,Ib. -/
  | cmpEbIb82 (e : Rm Reg8) (imm : Byte)
  /-- R187, R188, `83 /7 ib`: CMP Ev,Ibs. -/
  | cmpEvIbs (e : Rm Reg16) (imm : Byte)
  /-- R190, `84 /r`: TEST Eb,Gb. -/
  | testEbGb (e : Rm Reg8) (g : Reg8)
  /-- R190, `85 /r`: TEST Ev,Gv. -/
  | testEvGv (e : Rm Reg16) (g : Reg16)
  /-- R190, `A8 ib`: TEST AL,Ib. -/
  | testAlIb (imm : Byte)
  /-- R190, `A9 iw`: TEST AX,Iv. -/
  | testAxIv (imm : Word)
  /-- R190, `F6 /0 ib`: TEST Eb,Ib. -/
  | testEbIb (e : Rm Reg8) (imm : Byte)
  /-- R190, `F7 /0 iw`: TEST Ev,Iv. -/
  | testEvIv (e : Rm Reg16) (imm : Word)
  /-- R192, `40+r`: INC r16. -/
  | incR16 (r : Reg16)
  /-- R192, `FE /0`: INC Eb. -/
  | incEb (e : Rm Reg8)
  /-- R192, `FF /0`: INC Ev. -/
  | incEv (e : Rm Reg16)
  /-- R193, `48+r`: DEC r16. -/
  | decR16 (r : Reg16)
  /-- R193, `FE /1`: DEC Eb. -/
  | decEb (e : Rm Reg8)
  /-- R193, `FF /1`: DEC Ev. -/
  | decEv (e : Rm Reg16)
  /-- R196, `F6 /2`: NOT Eb. -/
  | notEb (e : Rm Reg8)
  /-- R196, `F7 /2`: NOT Ev. -/
  | notEv (e : Rm Reg16)
  /-- R197, `F6 /3`: NEG Eb. -/
  | negEb (e : Rm Reg8)
  /-- R197, `F7 /3`: NEG Ev. -/
  | negEv (e : Rm Reg16)
  -- BCD adjust (42_bcd_adjust.md)
  /-- R222, `27`: DAA. -/
  | daa
  /-- R223, `2F`: DAS. -/
  | das
  /-- R224, `37`: AAA. -/
  | aaa
  /-- R225, `3F`: AAS. -/
  | aas
  /-- R230, `D4 ib`: AAM; a zero immediate raises DivideFault. -/
  | aam (imm : Byte)
  /-- R231, `D5 ib`: AAD. -/
  | aad (imm : Byte)
  -- Shifts and rotates (43_shift_rotate.md)
  /-- R246, `D0 /0`: ROL Eb,1. -/
  | rolEb1 (e : Rm Reg8)
  /-- R246, `D1 /0`: ROL Ev,1. -/
  | rolEv1 (e : Rm Reg16)
  /-- R246, R243, `D2 /0`: ROL Eb,CL. -/
  | rolEbCl (e : Rm Reg8)
  /-- R246, R243, `D3 /0`: ROL Ev,CL. -/
  | rolEvCl (e : Rm Reg16)
  /-- R247, `D0 /1`: ROR Eb,1. -/
  | rorEb1 (e : Rm Reg8)
  /-- R247, `D1 /1`: ROR Ev,1. -/
  | rorEv1 (e : Rm Reg16)
  /-- R247, R243, `D2 /1`: ROR Eb,CL. -/
  | rorEbCl (e : Rm Reg8)
  /-- R247, R243, `D3 /1`: ROR Ev,CL. -/
  | rorEvCl (e : Rm Reg16)
  /-- R248, `D0 /2`: RCL Eb,1. -/
  | rclEb1 (e : Rm Reg8)
  /-- R248, `D1 /2`: RCL Ev,1. -/
  | rclEv1 (e : Rm Reg16)
  /-- R248, R243, `D2 /2`: RCL Eb,CL. -/
  | rclEbCl (e : Rm Reg8)
  /-- R248, R243, `D3 /2`: RCL Ev,CL. -/
  | rclEvCl (e : Rm Reg16)
  /-- R249, `D0 /3`: RCR Eb,1. -/
  | rcrEb1 (e : Rm Reg8)
  /-- R249, `D1 /3`: RCR Ev,1. -/
  | rcrEv1 (e : Rm Reg16)
  /-- R249, R243, `D2 /3`: RCR Eb,CL. -/
  | rcrEbCl (e : Rm Reg8)
  /-- R249, R243, `D3 /3`: RCR Ev,CL. -/
  | rcrEvCl (e : Rm Reg16)
  /-- R250, `D0 /4`: SHL Eb,1. -/
  | shlEb1 (e : Rm Reg8)
  /-- R250, `D1 /4`: SHL Ev,1. -/
  | shlEv1 (e : Rm Reg16)
  /-- R250, R243, `D2 /4`: SHL Eb,CL. -/
  | shlEbCl (e : Rm Reg8)
  /-- R250, R243, `D3 /4`: SHL Ev,CL. -/
  | shlEvCl (e : Rm Reg16)
  /-- R251, `D0 /5`: SHR Eb,1. -/
  | shrEb1 (e : Rm Reg8)
  /-- R251, `D1 /5`: SHR Ev,1. -/
  | shrEv1 (e : Rm Reg16)
  /-- R251, R243, `D2 /5`: SHR Eb,CL. -/
  | shrEbCl (e : Rm Reg8)
  /-- R251, R243, `D3 /5`: SHR Ev,CL. -/
  | shrEvCl (e : Rm Reg16)
  /-- R252, `D0 /7`: SAR Eb,1. -/
  | sarEb1 (e : Rm Reg8)
  /-- R252, `D1 /7`: SAR Ev,1. -/
  | sarEv1 (e : Rm Reg16)
  /-- R252, R243, `D2 /7`: SAR Eb,CL. -/
  | sarEbCl (e : Rm Reg8)
  /-- R252, R243, `D3 /7`: SAR Ev,CL. -/
  | sarEvCl (e : Rm Reg16)
  -- Multiply and divide (44_mul_div.md)
  /-- R271, `F6 /4`: MUL Eb. -/
  | mulEb (e : Rm Reg8)
  /-- R272, `F7 /4`: MUL Ev. -/
  | mulEv (e : Rm Reg16)
  /-- R273, `F6 /5`: IMUL Eb. -/
  | imulEb (e : Rm Reg8)
  /-- R274, `F7 /5`: IMUL Ev. -/
  | imulEv (e : Rm Reg16)
  /-- R275, `F6 /6`: DIV Eb. -/
  | divEb (e : Rm Reg8)
  /-- R276, `F7 /6`: DIV Ev. -/
  | divEv (e : Rm Reg16)
  /-- R277, `F6 /7`: IDIV Eb. -/
  | idivEb (e : Rm Reg8)
  /-- R278, `F7 /7`: IDIV Ev. -/
  | idivEv (e : Rm Reg16)
  -- Data transfer (45_data_transfer.md)
  /-- R300, `88 /r`: MOV Eb,Gb. -/
  | movEbGb (e : Rm Reg8) (g : Reg8)
  /-- R301, `89 /r`: MOV Ev,Gv. -/
  | movEvGv (e : Rm Reg16) (g : Reg16)
  /-- R302, `8A /r`: MOV Gb,Eb. -/
  | movGbEb (g : Reg8) (e : Rm Reg8)
  /-- R303, `8B /r`: MOV Gv,Ev. -/
  | movGvEv (g : Reg16) (e : Rm Reg16)
  /-- R304, `8C /r`: MOV Ew,Sw. -/
  | movEwSw (e : Rm Reg16) (sr : SReg)
  /-- R308, `8D /r`: LEA; the offset alone, no memory access. -/
  | leaGvM (g : Reg16) (m : MemRef)
  /-- R305, `8E /r`: MOV Sw,Ew. -/
  | movSwEw (sr : SReg) (e : Rm Reg16)
  /-- R310, `A0 iw`: MOV AL,Ob. -/
  | movAlOb (off : Word)
  /-- R310, `A1 iw`: MOV AX,Ov. -/
  | movAxOv (off : Word)
  /-- R311, `A2 iw`: MOV Ob,AL. -/
  | movObAl (off : Word)
  /-- R311, `A3 iw`: MOV Ov,AX. -/
  | movOvAx (off : Word)
  /-- R306, `B0+r ib`: MOV r8,Ib. -/
  | movR8Ib (r : Reg8) (imm : Byte)
  /-- R307, `B8+r iw`: MOV r16,Iv. -/
  | movR16Iv (r : Reg16) (imm : Word)
  /-- R309, `C6 /0 ib`: MOV Eb,Ib. -/
  | movEbIb (e : Rm Reg8) (imm : Byte)
  /-- R309, `C7 /0 iw`: MOV Ev,Iv. -/
  | movEvIv (e : Rm Reg16) (imm : Word)
  /-- R312, `86 /r`: XCHG Eb,Gb. -/
  | xchgEbGb (e : Rm Reg8) (g : Reg8)
  /-- R312, `87 /r`: XCHG Ev,Gv. -/
  | xchgEvGv (e : Rm Reg16) (g : Reg16)
  /-- R313, `91`: XCHG AX,CX. -/
  | xchgAxCx
  /-- R313, `92`: XCHG AX,DX. -/
  | xchgAxDx
  /-- R313, `93`: XCHG AX,BX. -/
  | xchgAxBx
  /-- R313, `94`: XCHG AX,SP. -/
  | xchgAxSp
  /-- R313, `95`: XCHG AX,BP. -/
  | xchgAxBp
  /-- R313, `96`: XCHG AX,SI. -/
  | xchgAxSi
  /-- R313, `97`: XCHG AX,DI. -/
  | xchgAxDi
  /-- R314, `C4 /r`: LES Gv,Mp. -/
  | lesGvMp (g : Reg16) (m : MemRef)
  /-- R315, `C5 /r`: LDS Gv,Mp. -/
  | ldsGvMp (g : Reg16) (m : MemRef)
  /-- R316, `D7`: XLAT; AL is added to BX unsigned. -/
  | xlat
  /-- R317, `98`: CBW. -/
  | cbw
  /-- R318, `99`: CWD. -/
  | cwd
  /-- R322, `E4 ib`: IN AL,Ib. -/
  | inAlIb (port : Byte)
  /-- R323, `E5 ib`: IN AX,Ib. -/
  | inAxIb (port : Byte)
  /-- R324, `E6 ib`: OUT Ib,AL. -/
  | outIbAl (port : Byte)
  /-- R325, `E7 ib`: OUT Ib,AX. -/
  | outIbAx (port : Byte)
  /-- R322, `EC`: IN AL,DX. -/
  | inAlDx
  /-- R323, `ED`: IN AX,DX. -/
  | inAxDx
  /-- R324, `EE`: OUT DX,AL. -/
  | outDxAl
  /-- R325, `EF`: OUT DX,AX. -/
  | outDxAx
  -- Stack (46_stack.md)
  /-- R342, `50`: PUSH AX. -/
  | pushAx
  /-- R342, `51`: PUSH CX. -/
  | pushCx
  /-- R342, `52`: PUSH DX. -/
  | pushDx
  /-- R342, `53`: PUSH BX. -/
  | pushBx
  /-- R343, `54`: PUSH SP; the stored value depends on ARCH. -/
  | pushSp
  /-- R342, `55`: PUSH BP. -/
  | pushBp
  /-- R342, `56`: PUSH SI. -/
  | pushSi
  /-- R342, `57`: PUSH DI. -/
  | pushDi
  /-- R344, `58+r`: POP r16; for POP SP the register write comes after the increment. -/
  | popR16 (r : Reg16)
  /-- R350, `FF /6`: PUSH Ev. -/
  | pushEv (e : Rm Reg16)
  /-- R351, `8F /0`: POP; the effective address is that of the state before the pop. -/
  | popEv (e : Rm Reg16)
  /-- R345, `06`: PUSH ES. -/
  | pushEs
  /-- R345, `0E`: PUSH CS. -/
  | pushCs
  /-- R345, `16`: PUSH SS. -/
  | pushSs
  /-- R345, `1E`: PUSH DS. -/
  | pushDs
  /-- R346, `07`: POP ES; the word is read with the old SS. -/
  | popEs
  /-- R346, `17`: POP SS; the word is read with the old SS. -/
  | popSs
  /-- R346, `1F`: POP DS; the word is read with the old SS. -/
  | popDs
  /-- R348, `9C`: PUSHF. -/
  | pushf
  /-- R349, `9D`: POPF. -/
  | popf
  -- String instructions (47_string.md)
  /-- R376, R372, `A4`: MOVSB under the active repeat mode. -/
  | movsb
  /-- R376, R372, `A5`: MOVSW under the active repeat mode. -/
  | movsw
  /-- R378, R372, `A6`: CMPSB under the active repeat mode. -/
  | cmpsb
  /-- R378, R372, `A7`: CMPSW under the active repeat mode. -/
  | cmpsw
  /-- R380, R372, `AA`: STOSB under the active repeat mode. -/
  | stosb
  /-- R380, R372, `AB`: STOSW under the active repeat mode. -/
  | stosw
  /-- R381, R372, `AC`: LODSB under the active repeat mode. -/
  | lodsb
  /-- R381, R372, `AD`: LODSW under the active repeat mode. -/
  | lodsw
  /-- R383, R372, `AE`: SCASB under the active repeat mode. -/
  | scasb
  /-- R383, R372, `AF`: SCASW under the active repeat mode. -/
  | scasw
  -- Control transfer (48_control_transfer.md)
  /-- R402, `70 ib`: JO. -/
  | jo (d : Byte)
  /-- R402, `71 ib`: JNO. -/
  | jno (d : Byte)
  /-- R402, `72 ib`: JB. -/
  | jb (d : Byte)
  /-- R402, `73 ib`: JNB. -/
  | jnb (d : Byte)
  /-- R402, `74 ib`: JE. -/
  | je (d : Byte)
  /-- R402, `75 ib`: JNE. -/
  | jne (d : Byte)
  /-- R402, `76 ib`: JBE. -/
  | jbe (d : Byte)
  /-- R402, `77 ib`: JNBE. -/
  | jnbe (d : Byte)
  /-- R402, `78 ib`: JS. -/
  | js (d : Byte)
  /-- R402, `79 ib`: JNS. -/
  | jns (d : Byte)
  /-- R402, `7A ib`: JP. -/
  | jp (d : Byte)
  /-- R402, `7B ib`: JNP. -/
  | jnp (d : Byte)
  /-- R402, `7C ib`: JL. -/
  | jl (d : Byte)
  /-- R402, `7D ib`: JNL. -/
  | jnl (d : Byte)
  /-- R402, `7E ib`: JLE. -/
  | jle (d : Byte)
  /-- R402, `7F ib`: JNLE. -/
  | jnle (d : Byte)
  /-- R404, `EB ib`: JMP short. -/
  | jmpShort (d : Byte)
  /-- R405, `E9 iw`: JMP near. -/
  | jmpNear (d : Word)
  /-- R406, `FF /4`: JMP near indirect. -/
  | jmpEv (e : Rm Reg16)
  /-- R408, `EA iw iw`: JMP far; offset first, then segment. -/
  | jmpFar (off : Word) (seg : Word)
  /-- R409, `FF /5`: JMP far indirect. -/
  | jmpMp (m : MemRef)
  /-- R411, `E8 iw`: CALL near. -/
  | callNear (d : Word)
  /-- R412, `FF /2`: CALL near indirect; the target is read before the push. -/
  | callEv (e : Rm Reg16)
  /-- R413, `9A iw iw`: CALL far. -/
  | callFar (off : Word) (seg : Word)
  /-- R414, `FF /3`: CALL far indirect; both words are read before either push. -/
  | callMp (m : MemRef)
  /-- R416, `C2 iw`: RET near, n added to SP after the pop. -/
  | retNearIw (n : Word)
  /-- R415, `C3`: RET near. -/
  | retNear
  /-- R418, `CA iw`: RET far, n added to SP after both pops. -/
  | retFarIw (n : Word)
  /-- R417, `CB`: RET far. -/
  | retFar
  /-- R425, `E0 ib`: LOOPNE. -/
  | loopne (d : Byte)
  /-- R426, `E1 ib`: LOOPE. -/
  | loope (d : Byte)
  /-- R427, `E2 ib`: LOOP. -/
  | loop (d : Byte)
  /-- R428, `E3 ib`: JCXZ; CX is not changed. -/
  | jcxz (d : Byte)
  -- Flag instructions, interrupts, HLT, NOP, prefixes, and the encodings that select no instruction (49_flags_int_hlt.md, 30_encoding.md, 60_exceptions.md)
  /-- R470, `CD ib`: INT. -/
  | intIb (n : Byte)
  /-- R117, R118, R501: an opcode byte that selects no instruction. -/
  | unimplementedOpcode (op : Byte)
  /-- R120, R121, R122, R502: a malformed ModR/M combination; when the opcode byte is wholly tier 2 and `STRICT_SOURCE_SET` is true the opcode byte is rejected first. -/
  | invalidOperandEncoding (op : Byte) (modrm : Byte)
  /-- R450, `F8`: CLC. -/
  | clc
  /-- R451, `F9`: STC. -/
  | stc
  /-- R452, `F5`: CMC. -/
  | cmc
  /-- R453, `FA`: CLI. -/
  | cli
  /-- R454, `FB`: STI. -/
  | sti
  /-- R455, `FC`: CLD. -/
  | cld
  /-- R456, `FD`: STD. -/
  | std
  /-- R459, `9E`: SAHF. -/
  | sahf
  /-- R460, `9F`: LAHF. -/
  | lahf
  /-- R471, `CC`: INT3. -/
  | int3
  /-- R472, `CE`: INTO; vector 4 when OF = 1, otherwise nothing but the advance of IP. -/
  | into
  /-- R474, `CF`: IRET. -/
  | iret
  /-- R476, `F4`: HLT; only the Halt signal is raised (log 5). -/
  | hlt
  /-- R478, `90`: NOP. -/
  | nop
  /-- R105, R106, `26`: prefix, override <- ES; the step goes on with the next byte. -/
  | prefixEs
  /-- R105, R106, `2E`: prefix, override <- CS; the step goes on with the next byte. -/
  | prefixCs
  /-- R105, R106, `36`: prefix, override <- SS; the step goes on with the next byte. -/
  | prefixSs
  /-- R105, R106, `3E`: prefix, override <- DS; the step goes on with the next byte. -/
  | prefixDs
  /-- R105, R106, `F0`: prefix, lock <- true; the step goes on with the next byte. -/
  | lockF0
  /-- R105, R106, `F1`: prefix, lock <- true (second encoding); the step goes on with the next byte. -/
  | lockF1
  /-- R105, R106, `F2`: prefix, rep <- REPNZ; the step goes on with the next byte. -/
  | repnz
  /-- R105, R106, `F3`: prefix, rep <- REPZ; the step goes on with the next byte. -/
  | repz
  deriving DecidableEq, Repr

end Sys2Proof
end

