-- ==== Sys2Proof/WellFormed.lean ====
section
/-! DEFINITION. Which terms of Instr are instructions of the core: the checks that the types do not already make. -/

namespace Sys2Proof

/-- [BP] exists only with a displacement: mod = 0, rm = 6 is the direct form (R143). -/
def MemRef.wf : MemRef → Bool
  | .direct _ => true
  | .based .bp .none => false
  | .based _ _ => true

/-- An `E` operand is well formed when its memory form is. -/
def Rm.wf {ρ : Type} : Rm ρ → Bool
  | .reg _ => true
  | .mem m => m.wf

/-- The 31 opcode bytes that select no instruction (R117, R118). -/
def isUnassigned (op : Byte) : Bool :=
  op == 0x0F || (0x60 ≤ op && op ≤ 0x6F) || op == 0x9B || op == 0xC0 || op == 0xC1 || op == 0xC8 || op == 0xC9 || op == 0xD6
    || (0xD8 ≤ op && op ≤ 0xDF)

/-- The opcode and ModR/M pairs that raise InvalidOperandEncoding (the table of R502). -/
def isMalformed (op modrm : Byte) : Bool :=
  let mod := modrm.extractLsb' 6 2
  let reg := modrm.extractLsb' 3 3
  (op == 0x8D && mod == 3) || (op == 0xC4 && mod == 3) || (op == 0xC5 && mod == 3)
    || (op == 0xFF && (reg == 3 || reg == 5) && mod == 3)
    || ((op == 0x8C || op == 0x8E) && 4 ≤ reg)
    || (op == 0x8F && reg != 0)
    || ((op == 0xC6 || op == 0xC7) && reg != 0)
    || ((op == 0xD0 || op == 0xD1 || op == 0xD2 || op == 0xD3) && reg == 6)
    || ((op == 0xF6 || op == 0xF7) && reg == 1)
    || (op == 0xFE && 2 ≤ reg)
    || (op == 0xFF && reg == 7)

/-- Well-formedness of an instruction. -/
def Instr.wf : Instr → Bool
  | .addEbGb e _ => e.wf
  | .addEvGv e _ => e.wf
  | .addGbEb _ e => e.wf
  | .addGvEv _ e => e.wf
  | .addAlIb _ => true
  | .addAxIv _ => true
  | .orEbGb e _ => e.wf
  | .orEvGv e _ => e.wf
  | .orGbEb _ e => e.wf
  | .orGvEv _ e => e.wf
  | .orAlIb _ => true
  | .orAxIv _ => true
  | .adcEbGb e _ => e.wf
  | .adcEvGv e _ => e.wf
  | .adcGbEb _ e => e.wf
  | .adcGvEv _ e => e.wf
  | .adcAlIb _ => true
  | .adcAxIv _ => true
  | .sbbEbGb e _ => e.wf
  | .sbbEvGv e _ => e.wf
  | .sbbGbEb _ e => e.wf
  | .sbbGvEv _ e => e.wf
  | .sbbAlIb _ => true
  | .sbbAxIv _ => true
  | .andEbGb e _ => e.wf
  | .andEvGv e _ => e.wf
  | .andGbEb _ e => e.wf
  | .andGvEv _ e => e.wf
  | .andAlIb _ => true
  | .andAxIv _ => true
  | .subEbGb e _ => e.wf
  | .subEvGv e _ => e.wf
  | .subGbEb _ e => e.wf
  | .subGvEv _ e => e.wf
  | .subAlIb _ => true
  | .subAxIv _ => true
  | .xorEbGb e _ => e.wf
  | .xorEvGv e _ => e.wf
  | .xorGbEb _ e => e.wf
  | .xorGvEv _ e => e.wf
  | .xorAlIb _ => true
  | .xorAxIv _ => true
  | .cmpEbGb e _ => e.wf
  | .cmpEvGv e _ => e.wf
  | .cmpGbEb _ e => e.wf
  | .cmpGvEv _ e => e.wf
  | .cmpAlIb _ => true
  | .cmpAxIv _ => true
  | .addEbIb e _ => e.wf
  | .addEvIv e _ => e.wf
  | .addEbIb82 e _ => e.wf
  | .addEvIbs e _ => e.wf
  | .orEbIb e _ => e.wf
  | .orEvIv e _ => e.wf
  | .orEbIb82 e _ => e.wf
  | .orEvIbs e _ => e.wf
  | .adcEbIb e _ => e.wf
  | .adcEvIv e _ => e.wf
  | .adcEbIb82 e _ => e.wf
  | .adcEvIbs e _ => e.wf
  | .sbbEbIb e _ => e.wf
  | .sbbEvIv e _ => e.wf
  | .sbbEbIb82 e _ => e.wf
  | .sbbEvIbs e _ => e.wf
  | .andEbIb e _ => e.wf
  | .andEvIv e _ => e.wf
  | .andEbIb82 e _ => e.wf
  | .andEvIbs e _ => e.wf
  | .subEbIb e _ => e.wf
  | .subEvIv e _ => e.wf
  | .subEbIb82 e _ => e.wf
  | .subEvIbs e _ => e.wf
  | .xorEbIb e _ => e.wf
  | .xorEvIv e _ => e.wf
  | .xorEbIb82 e _ => e.wf
  | .xorEvIbs e _ => e.wf
  | .cmpEbIb e _ => e.wf
  | .cmpEvIv e _ => e.wf
  | .cmpEbIb82 e _ => e.wf
  | .cmpEvIbs e _ => e.wf
  | .testEbGb e _ => e.wf
  | .testEvGv e _ => e.wf
  | .testAlIb _ => true
  | .testAxIv _ => true
  | .testEbIb e _ => e.wf
  | .testEvIv e _ => e.wf
  | .incR16 _ => true
  | .incEb e => e.wf
  | .incEv e => e.wf
  | .decR16 _ => true
  | .decEb e => e.wf
  | .decEv e => e.wf
  | .notEb e => e.wf
  | .notEv e => e.wf
  | .negEb e => e.wf
  | .negEv e => e.wf
  | .daa => true
  | .das => true
  | .aaa => true
  | .aas => true
  | .aam _ => true
  | .aad _ => true
  | .rolEb1 e => e.wf
  | .rolEv1 e => e.wf
  | .rolEbCl e => e.wf
  | .rolEvCl e => e.wf
  | .rorEb1 e => e.wf
  | .rorEv1 e => e.wf
  | .rorEbCl e => e.wf
  | .rorEvCl e => e.wf
  | .rclEb1 e => e.wf
  | .rclEv1 e => e.wf
  | .rclEbCl e => e.wf
  | .rclEvCl e => e.wf
  | .rcrEb1 e => e.wf
  | .rcrEv1 e => e.wf
  | .rcrEbCl e => e.wf
  | .rcrEvCl e => e.wf
  | .shlEb1 e => e.wf
  | .shlEv1 e => e.wf
  | .shlEbCl e => e.wf
  | .shlEvCl e => e.wf
  | .shrEb1 e => e.wf
  | .shrEv1 e => e.wf
  | .shrEbCl e => e.wf
  | .shrEvCl e => e.wf
  | .sarEb1 e => e.wf
  | .sarEv1 e => e.wf
  | .sarEbCl e => e.wf
  | .sarEvCl e => e.wf
  | .mulEb e => e.wf
  | .mulEv e => e.wf
  | .imulEb e => e.wf
  | .imulEv e => e.wf
  | .divEb e => e.wf
  | .divEv e => e.wf
  | .idivEb e => e.wf
  | .idivEv e => e.wf
  | .movEbGb e _ => e.wf
  | .movEvGv e _ => e.wf
  | .movGbEb _ e => e.wf
  | .movGvEv _ e => e.wf
  | .movEwSw e _ => e.wf
  | .leaGvM _ m => m.wf
  | .movSwEw _ e => e.wf
  | .movAlOb _ => true
  | .movAxOv _ => true
  | .movObAl _ => true
  | .movOvAx _ => true
  | .movR8Ib _ _ => true
  | .movR16Iv _ _ => true
  | .movEbIb e _ => e.wf
  | .movEvIv e _ => e.wf
  | .xchgEbGb e _ => e.wf
  | .xchgEvGv e _ => e.wf
  | .xchgAxCx => true
  | .xchgAxDx => true
  | .xchgAxBx => true
  | .xchgAxSp => true
  | .xchgAxBp => true
  | .xchgAxSi => true
  | .xchgAxDi => true
  | .lesGvMp _ m => m.wf
  | .ldsGvMp _ m => m.wf
  | .xlat => true
  | .cbw => true
  | .cwd => true
  | .inAlIb _ => true
  | .inAxIb _ => true
  | .outIbAl _ => true
  | .outIbAx _ => true
  | .inAlDx => true
  | .inAxDx => true
  | .outDxAl => true
  | .outDxAx => true
  | .pushAx => true
  | .pushCx => true
  | .pushDx => true
  | .pushBx => true
  | .pushSp => true
  | .pushBp => true
  | .pushSi => true
  | .pushDi => true
  | .popR16 _ => true
  | .pushEv e => e.wf
  | .popEv e => e.wf
  | .pushEs => true
  | .pushCs => true
  | .pushSs => true
  | .pushDs => true
  | .popEs => true
  | .popSs => true
  | .popDs => true
  | .pushf => true
  | .popf => true
  | .movsb => true
  | .movsw => true
  | .cmpsb => true
  | .cmpsw => true
  | .stosb => true
  | .stosw => true
  | .lodsb => true
  | .lodsw => true
  | .scasb => true
  | .scasw => true
  | .jo _ => true
  | .jno _ => true
  | .jb _ => true
  | .jnb _ => true
  | .je _ => true
  | .jne _ => true
  | .jbe _ => true
  | .jnbe _ => true
  | .js _ => true
  | .jns _ => true
  | .jp _ => true
  | .jnp _ => true
  | .jl _ => true
  | .jnl _ => true
  | .jle _ => true
  | .jnle _ => true
  | .jmpShort _ => true
  | .jmpNear _ => true
  | .jmpEv e => e.wf
  | .jmpFar _ _ => true
  | .jmpMp m => m.wf
  | .callNear _ => true
  | .callEv e => e.wf
  | .callFar _ _ => true
  | .callMp m => m.wf
  | .retNearIw _ => true
  | .retNear => true
  | .retFarIw _ => true
  | .retFar => true
  | .loopne _ => true
  | .loope _ => true
  | .loop _ => true
  | .jcxz _ => true
  | .intIb _ => true
  | .unimplementedOpcode op => isUnassigned op
  | .invalidOperandEncoding op modrm => isMalformed op modrm
  | .clc => true
  | .stc => true
  | .cmc => true
  | .cli => true
  | .sti => true
  | .cld => true
  | .std => true
  | .sahf => true
  | .lahf => true
  | .int3 => true
  | .into => true
  | .iret => true
  | .hlt => true
  | .nop => true
  | .prefixEs => true
  | .prefixCs => true
  | .prefixSs => true
  | .prefixDs => true
  | .lockF0 => true
  | .lockF1 => true
  | .repnz => true
  | .repz => true

end Sys2Proof
end

