-- ==== Sys2Proof/Decode.lean ====
section
/-! DEFINITION. The decoder (30_encoding.md) and, after it, the encoder. The decoder is total on any list of bytes: it answers
an instruction and the bytes after it, or rejects by name. The opcode map is the sixteen rows of R115 as data. -/

namespace Sys2Proof

/-! ## Encoding numbers (R21, R23, R27, R143) -/

/-- The index of a general register (R21). -/
def Reg16.bits : Reg16 → BitVec 3
  | .ax => 0
  | .cx => 1
  | .dx => 2
  | .bx => 3
  | .sp => 4
  | .bp => 5
  | .si => 6
  | .di => 7

/-- The general register of an index (R21). -/
def Reg16.ofBits (b : BitVec 3) : Reg16 :=
  match b.toNat with
  | 0 => .ax
  | 1 => .cx
  | 2 => .dx
  | 3 => .bx
  | 4 => .sp
  | 5 => .bp
  | 6 => .si
  | _ => .di

/-- The index of a byte register (R23). -/
def Reg8.bits : Reg8 → BitVec 3
  | .al => 0
  | .cl => 1
  | .dl => 2
  | .bl => 3
  | .ah => 4
  | .ch => 5
  | .dh => 6
  | .bh => 7

/-- The byte register of an index (R23). -/
def Reg8.ofBits (b : BitVec 3) : Reg8 :=
  match b.toNat with
  | 0 => .al
  | 1 => .cl
  | 2 => .dl
  | 3 => .bl
  | 4 => .ah
  | 5 => .ch
  | 6 => .dh
  | _ => .bh

/-- The number of a segment register as a reg field (R27). -/
def SReg.bits3 : SReg → BitVec 3
  | .es => 0
  | .cs => 1
  | .ss => 2
  | .ds => 3

/-- The segment register of a reg field; 4 to 7 name none (R122). -/
def SReg.ofBits (b : BitVec 3) : Option SReg :=
  match b.toNat with
  | 0 => some .es
  | 1 => some .cs
  | 2 => some .ss
  | 3 => some .ds
  | _ => none

/-- The rm value of a register form (R143). -/
def Base.bits : Base → BitVec 3
  | .bxSi => 0
  | .bxDi => 1
  | .bpSi => 2
  | .bpDi => 3
  | .si => 4
  | .di => 5
  | .bp => 6
  | .bx => 7

/-- The register form of an rm value (R143). -/
def Base.ofBits (b : BitVec 3) : Base :=
  match b.toNat with
  | 0 => .bxSi
  | 1 => .bxDi
  | 2 => .bpSi
  | 3 => .bpDi
  | 4 => .si
  | 5 => .di
  | 6 => .bp
  | _ => .bx

/-- A register number in bits 2:0 of an opcode byte whose other bits are `base` (R115). -/
def regOpcode (base : Byte) (r : Reg16) : Byte := base ||| r.bits.setWidth 8

/-! ## Fields of the ModR/M byte (R111) -/

/-- Bits 7:6. -/
def modField (m : Byte) : BitVec 2 := m.extractLsb' 6 2

/-- Bits 5:3. -/
def regField (m : Byte) : BitVec 3 := m.extractLsb' 3 3

/-- Bits 2:0. -/
def rmField (m : Byte) : BitVec 3 := m.extractLsb' 0 3

/-! ## Reading the byte stream (R102, R103, R112) -/

/-- Why the decoder gives no instruction. Every reserved or unassigned encoding is an instruction term of its own
(`unimplementedOpcode`, `invalidOperandEncoding`), so the only rejection is a list that ends inside an instruction. -/
inductive DecodeError where
  /-- The bytes end before the instruction does. -/
  | truncated
  deriving DecidableEq, Repr

/-- What a reader answers: a value and the bytes after it. -/
abbrev Parsed (α : Type) := Except DecodeError (α × List Byte)

/-- Read one value, then go on with what it and the bytes after it say. -/
def Parsed.andThen {α β : Type} (p : Parsed α) (k : α → List Byte → Parsed β) : Parsed β :=
  match p with
  | .ok (a, bs) => k a bs
  | .error e => .error e

/-- Read one value and wrap it. -/
def Parsed.wrap {α β : Type} (p : Parsed α) (k : α → β) : Parsed β := p.andThen (fun a bs => .ok (k a, bs))

/-- `Fetch8()` on the list (R102). -/
def takeByte : List Byte → Parsed Byte
  | [] => .error .truncated
  | b :: bs => .ok (b, bs)

/-- `Fetch16()` on the list: the low byte first (R103). -/
def takeWord : List Byte → Parsed Word
  | lo :: hi :: bs => .ok (hi ++ lo, bs)
  | _ => .error .truncated

/-- The memory form of `mod` in 0 to 2 and `rm`, with its displacement (R112, R143). -/
def takeMem (mod : BitVec 2) (rm : BitVec 3) (bs : List Byte) : Parsed MemRef :=
  if mod = 0#2 then
    if rm = 6#3 then Parsed.wrap (takeWord bs) .direct else .ok (.based (Base.ofBits rm) .none, bs)
  else if mod = 1#2 then Parsed.wrap (takeByte bs) (fun d => .based (Base.ofBits rm) (.d8 d))
  else Parsed.wrap (takeWord bs) (fun d => .based (Base.ofBits rm) (.d16 d))

/-- The `E` operand of ModR/M byte `m` (R141, R142). -/
def takeRm {ρ : Type} (ofBits : BitVec 3 → ρ) (m : Byte) (bs : List Byte) : Parsed (Rm ρ) :=
  if modField m = 3#2 then .ok (.reg (ofBits (rmField m)), bs)
  else Parsed.wrap (takeMem (modField m) (rmField m) bs) .mem

/-! ## Operand forms (R113, R119) -/

/-- What follows the ModR/M byte of a group opcode once its reg field has chosen the operation (R119). -/
inductive GroupForm where
  | reserved
  | eb (k : Rm Reg8 → Instr)
  | ev (k : Rm Reg16 → Instr)
  | ebib (k : Rm Reg8 → Byte → Instr)
  | eviv (k : Rm Reg16 → Word → Instr)
  | evib (k : Rm Reg16 → Byte → Instr)
  | m (k : MemRef → Instr)

/-- What follows the ModR/M byte of an opcode that has one (R113, R115). -/
inductive ModrmForm where
  | ebgb (k : Rm Reg8 → Reg8 → Instr)
  | evgv (k : Rm Reg16 → Reg16 → Instr)
  | evsw (k : Rm Reg16 → SReg → Instr)
  | gvm (k : Reg16 → MemRef → Instr)
  | group (k : BitVec 3 → GroupForm)

/-- What follows an opcode byte (R113, R115). -/
inductive Form where
  | unassigned
  | bare (i : Instr)
  | imm8 (k : Byte → Instr)
  | imm16 (k : Word → Instr)
  | far (k : Word → Word → Instr)
  | modrm (f : ModrmForm)

/-- The operand bytes of a group form; `op` and `m` are reported if the form is reserved or forbids mod = 3 (R120, R121). -/
def parseGroup (op m : Byte) (f : GroupForm) (bs : List Byte) : Parsed Instr :=
  match f with
  | .reserved => .ok (.invalidOperandEncoding op m, bs)
  | .eb k => Parsed.wrap (takeRm Reg8.ofBits m bs) k
  | .ev k => Parsed.wrap (takeRm Reg16.ofBits m bs) k
  | .ebib k => Parsed.andThen (takeRm Reg8.ofBits m bs) (fun e bs => Parsed.wrap (takeByte bs) (k e))
  | .eviv k => Parsed.andThen (takeRm Reg16.ofBits m bs) (fun e bs => Parsed.wrap (takeWord bs) (k e))
  | .evib k => Parsed.andThen (takeRm Reg16.ofBits m bs) (fun e bs => Parsed.wrap (takeByte bs) (k e))
  | .m k =>
    if modField m = 3#2 then .ok (.invalidOperandEncoding op m, bs)
    else Parsed.wrap (takeMem (modField m) (rmField m) bs) k

/-- The bytes after a ModR/M byte `m` of an opcode that is no group opcode. -/
def parseModrm (op m : Byte) (f : ModrmForm) (bs : List Byte) : Parsed Instr :=
  match f with
  | .ebgb k => Parsed.wrap (takeRm Reg8.ofBits m bs) (fun e => k e (Reg8.ofBits (regField m)))
  | .evgv k => Parsed.wrap (takeRm Reg16.ofBits m bs) (fun e => k e (Reg16.ofBits (regField m)))
  | .evsw k =>
    match SReg.ofBits (regField m) with
    | none => .ok (.invalidOperandEncoding op m, bs)
    | some sr => Parsed.wrap (takeRm Reg16.ofBits m bs) (fun e => k e sr)
  | .gvm k =>
    if modField m = 3#2 then .ok (.invalidOperandEncoding op m, bs)
    else Parsed.wrap (takeMem (modField m) (rmField m) bs) (k (Reg16.ofBits (regField m)))
  | .group k => parseGroup op m (k (regField m)) bs

/-- The bytes after opcode byte `op` by its form, in the order ModR/M, displacement, immediate (R100). -/
def parseForm (op : Byte) (f : Form) (bs : List Byte) : Parsed Instr :=
  match f with
  | .unassigned => .ok (.unimplementedOpcode op, bs)
  | .bare i => .ok (i, bs)
  | .imm8 k => Parsed.wrap (takeByte bs) k
  | .imm16 k => Parsed.wrap (takeWord bs) k
  | .far k => Parsed.andThen (takeWord bs) (fun off bs => Parsed.wrap (takeWord bs) (k off))
  | .modrm f => Parsed.andThen (takeByte bs) (fun m bs => parseModrm op m f bs)

/-! ## Group opcodes (R119) -/

/-- A group from its eight entries, /0 first. -/
def groupOf (entries : List GroupForm) (reg : BitVec 3) : GroupForm := entries.getD reg.toNat .reserved

/-- `80`: group 1 Eb,Ib (R119). -/
def groupByteImm : BitVec 3 → GroupForm :=
  groupOf [.ebib .addEbIb, .ebib .orEbIb, .ebib .adcEbIb, .ebib .sbbEbIb, .ebib .andEbIb, .ebib .subEbIb, .ebib .xorEbIb, .ebib .cmpEbIb]

/-- `81`: group 1 Ev,Iv (R119). -/
def groupWordImm : BitVec 3 → GroupForm :=
  groupOf [.eviv .addEvIv, .eviv .orEvIv, .eviv .adcEvIv, .eviv .sbbEvIv, .eviv .andEvIv, .eviv .subEvIv, .eviv .xorEvIv, .eviv .cmpEvIv]

/-- `82`: group 1 Eb,Ib, second encoding (R119). -/
def groupByteImmAlias : BitVec 3 → GroupForm :=
  groupOf [.ebib .addEbIb82, .ebib .orEbIb82, .ebib .adcEbIb82, .ebib .sbbEbIb82, .ebib .andEbIb82, .ebib .subEbIb82, .ebib .xorEbIb82, .ebib .cmpEbIb82]

/-- `83`: group 1 Ev,Ibs (R119). -/
def groupWordByteImm : BitVec 3 → GroupForm :=
  groupOf [.evib .addEvIbs, .evib .orEvIbs, .evib .adcEvIbs, .evib .sbbEvIbs, .evib .andEvIbs, .evib .subEvIbs, .evib .xorEvIbs, .evib .cmpEvIbs]

/-- `8F`: group 1A (R119). -/
def groupPop : BitVec 3 → GroupForm :=
  groupOf [.ev .popEv, .reserved, .reserved, .reserved, .reserved, .reserved, .reserved, .reserved]

/-- `C6`: group 11 Eb,Ib (R119). -/
def groupMovByte : BitVec 3 → GroupForm :=
  groupOf [.ebib .movEbIb, .reserved, .reserved, .reserved, .reserved, .reserved, .reserved, .reserved]

/-- `C7`: group 11 Ev,Iv (R119). -/
def groupMovWord : BitVec 3 → GroupForm :=
  groupOf [.eviv .movEvIv, .reserved, .reserved, .reserved, .reserved, .reserved, .reserved, .reserved]

/-- `FE`: group 4 (R119). -/
def groupIncDecByte : BitVec 3 → GroupForm :=
  groupOf [.eb .incEb, .eb .decEb, .reserved, .reserved, .reserved, .reserved, .reserved, .reserved]

/-- `FF`: group 5 (R119). -/
def groupFive : BitVec 3 → GroupForm :=
  groupOf [.ev .incEv, .ev .decEv, .ev .callEv, .m .callMp, .ev .jmpEv, .m .jmpMp, .ev .pushEv, .reserved]

/-- `F6`: group 3 Eb (R119). -/
def groupUnaryByte : BitVec 3 → GroupForm :=
  groupOf [.ebib .testEbIb, .reserved, .eb .notEb, .eb .negEb, .eb .mulEb, .eb .imulEb, .eb .divEb, .eb .idivEb]

/-- `F7`: group 3 Ev (R119). -/
def groupUnaryWord : BitVec 3 → GroupForm :=
  groupOf [.eviv .testEvIv, .reserved, .ev .notEv, .ev .negEv, .ev .mulEv, .ev .imulEv, .ev .divEv, .ev .idivEv]

/-- `D0`: group 2 Eb,1 (R119). -/
def groupShiftByteOne : BitVec 3 → GroupForm :=
  groupOf [.eb .rolEb1, .eb .rorEb1, .eb .rclEb1, .eb .rcrEb1, .eb .shlEb1, .eb .shrEb1, .reserved, .eb .sarEb1]

/-- `D1`: group 2 Ev,1 (R119). -/
def groupShiftWordOne : BitVec 3 → GroupForm :=
  groupOf [.ev .rolEv1, .ev .rorEv1, .ev .rclEv1, .ev .rcrEv1, .ev .shlEv1, .ev .shrEv1, .reserved, .ev .sarEv1]

/-- `D2`: group 2 Eb,CL (R119). -/
def groupShiftByteCl : BitVec 3 → GroupForm :=
  groupOf [.eb .rolEbCl, .eb .rorEbCl, .eb .rclEbCl, .eb .rcrEbCl, .eb .shlEbCl, .eb .shrEbCl, .reserved, .eb .sarEbCl]

/-- `D3`: group 2 Ev,CL (R119). -/
def groupShiftWordCl : BitVec 3 → GroupForm :=
  groupOf [.ev .rolEvCl, .ev .rorEvCl, .ev .rclEvCl, .ev .rcrEvCl, .ev .shlEvCl, .ev .shrEvCl, .reserved, .ev .sarEvCl]

/-! ## The opcode map (R115), one row per high nibble -/

/-- Opcodes 00 to 0F. -/
def opcodeRow0 : List Form := [
  .modrm (.ebgb .addEbGb), .modrm (.evgv .addEvGv), .modrm (.ebgb (fun e g => .addGbEb g e)), .modrm (.evgv (fun e g => .addGvEv g e)),
  .imm8 .addAlIb, .imm16 .addAxIv, .bare .pushEs, .bare .popEs,
  .modrm (.ebgb .orEbGb), .modrm (.evgv .orEvGv), .modrm (.ebgb (fun e g => .orGbEb g e)), .modrm (.evgv (fun e g => .orGvEv g e)),
  .imm8 .orAlIb, .imm16 .orAxIv, .bare .pushCs, .unassigned]

/-- Opcodes 10 to 1F. -/
def opcodeRow1 : List Form := [
  .modrm (.ebgb .adcEbGb), .modrm (.evgv .adcEvGv), .modrm (.ebgb (fun e g => .adcGbEb g e)), .modrm (.evgv (fun e g => .adcGvEv g e)),
  .imm8 .adcAlIb, .imm16 .adcAxIv, .bare .pushSs, .bare .popSs,
  .modrm (.ebgb .sbbEbGb), .modrm (.evgv .sbbEvGv), .modrm (.ebgb (fun e g => .sbbGbEb g e)), .modrm (.evgv (fun e g => .sbbGvEv g e)),
  .imm8 .sbbAlIb, .imm16 .sbbAxIv, .bare .pushDs, .bare .popDs]

/-- Opcodes 20 to 2F. -/
def opcodeRow2 : List Form := [
  .modrm (.ebgb .andEbGb), .modrm (.evgv .andEvGv), .modrm (.ebgb (fun e g => .andGbEb g e)), .modrm (.evgv (fun e g => .andGvEv g e)),
  .imm8 .andAlIb, .imm16 .andAxIv, .bare .prefixEs, .bare .daa,
  .modrm (.ebgb .subEbGb), .modrm (.evgv .subEvGv), .modrm (.ebgb (fun e g => .subGbEb g e)), .modrm (.evgv (fun e g => .subGvEv g e)),
  .imm8 .subAlIb, .imm16 .subAxIv, .bare .prefixCs, .bare .das]

/-- Opcodes 30 to 3F. -/
def opcodeRow3 : List Form := [
  .modrm (.ebgb .xorEbGb), .modrm (.evgv .xorEvGv), .modrm (.ebgb (fun e g => .xorGbEb g e)), .modrm (.evgv (fun e g => .xorGvEv g e)),
  .imm8 .xorAlIb, .imm16 .xorAxIv, .bare .prefixSs, .bare .aaa,
  .modrm (.ebgb .cmpEbGb), .modrm (.evgv .cmpEvGv), .modrm (.ebgb (fun e g => .cmpGbEb g e)), .modrm (.evgv (fun e g => .cmpGvEv g e)),
  .imm8 .cmpAlIb, .imm16 .cmpAxIv, .bare .prefixDs, .bare .aas]

/-- Opcodes 40 to 4F. -/
def opcodeRow4 : List Form := [
  .bare (.incR16 .ax), .bare (.incR16 .cx), .bare (.incR16 .dx), .bare (.incR16 .bx),
  .bare (.incR16 .sp), .bare (.incR16 .bp), .bare (.incR16 .si), .bare (.incR16 .di),
  .bare (.decR16 .ax), .bare (.decR16 .cx), .bare (.decR16 .dx), .bare (.decR16 .bx),
  .bare (.decR16 .sp), .bare (.decR16 .bp), .bare (.decR16 .si), .bare (.decR16 .di)]

/-- Opcodes 50 to 5F. -/
def opcodeRow5 : List Form := [
  .bare .pushAx, .bare .pushCx, .bare .pushDx, .bare .pushBx,
  .bare .pushSp, .bare .pushBp, .bare .pushSi, .bare .pushDi,
  .bare (.popR16 .ax), .bare (.popR16 .cx), .bare (.popR16 .dx), .bare (.popR16 .bx),
  .bare (.popR16 .sp), .bare (.popR16 .bp), .bare (.popR16 .si), .bare (.popR16 .di)]

/-- Opcodes 60 to 6F. -/
def opcodeRow6 : List Form := [
  .unassigned, .unassigned, .unassigned, .unassigned,
  .unassigned, .unassigned, .unassigned, .unassigned,
  .unassigned, .unassigned, .unassigned, .unassigned,
  .unassigned, .unassigned, .unassigned, .unassigned]

/-- Opcodes 70 to 7F. -/
def opcodeRow7 : List Form := [
  .imm8 .jo, .imm8 .jno, .imm8 .jb, .imm8 .jnb,
  .imm8 .je, .imm8 .jne, .imm8 .jbe, .imm8 .jnbe,
  .imm8 .js, .imm8 .jns, .imm8 .jp, .imm8 .jnp,
  .imm8 .jl, .imm8 .jnl, .imm8 .jle, .imm8 .jnle]

/-- Opcodes 80 to 8F. -/
def opcodeRow8 : List Form := [
  .modrm (.group groupByteImm), .modrm (.group groupWordImm), .modrm (.group groupByteImmAlias), .modrm (.group groupWordByteImm),
  .modrm (.ebgb .testEbGb), .modrm (.evgv .testEvGv), .modrm (.ebgb .xchgEbGb), .modrm (.evgv .xchgEvGv),
  .modrm (.ebgb .movEbGb), .modrm (.evgv .movEvGv), .modrm (.ebgb (fun e g => .movGbEb g e)), .modrm (.evgv (fun e g => .movGvEv g e)),
  .modrm (.evsw .movEwSw), .modrm (.gvm .leaGvM), .modrm (.evsw (fun e sr => .movSwEw sr e)), .modrm (.group groupPop)]

/-- Opcodes 90 to 9F. -/
def opcodeRow9 : List Form := [
  .bare .nop, .bare .xchgAxCx, .bare .xchgAxDx, .bare .xchgAxBx,
  .bare .xchgAxSp, .bare .xchgAxBp, .bare .xchgAxSi, .bare .xchgAxDi,
  .bare .cbw, .bare .cwd, .far .callFar, .unassigned,
  .bare .pushf, .bare .popf, .bare .sahf, .bare .lahf]

/-- Opcodes A0 to AF. -/
def opcodeRowA : List Form := [
  .imm16 .movAlOb, .imm16 .movAxOv, .imm16 .movObAl, .imm16 .movOvAx,
  .bare .movsb, .bare .movsw, .bare .cmpsb, .bare .cmpsw,
  .imm8 .testAlIb, .imm16 .testAxIv, .bare .stosb, .bare .stosw,
  .bare .lodsb, .bare .lodsw, .bare .scasb, .bare .scasw]

/-- Opcodes B0 to BF. -/
def opcodeRowB : List Form := [
  .imm8 (.movR8Ib .al), .imm8 (.movR8Ib .cl), .imm8 (.movR8Ib .dl), .imm8 (.movR8Ib .bl),
  .imm8 (.movR8Ib .ah), .imm8 (.movR8Ib .ch), .imm8 (.movR8Ib .dh), .imm8 (.movR8Ib .bh),
  .imm16 (.movR16Iv .ax), .imm16 (.movR16Iv .cx), .imm16 (.movR16Iv .dx), .imm16 (.movR16Iv .bx),
  .imm16 (.movR16Iv .sp), .imm16 (.movR16Iv .bp), .imm16 (.movR16Iv .si), .imm16 (.movR16Iv .di)]

/-- Opcodes C0 to CF. -/
def opcodeRowC : List Form := [
  .unassigned, .unassigned, .imm16 .retNearIw, .bare .retNear,
  .modrm (.gvm .lesGvMp), .modrm (.gvm .ldsGvMp), .modrm (.group groupMovByte), .modrm (.group groupMovWord),
  .unassigned, .unassigned, .imm16 .retFarIw, .bare .retFar,
  .bare .int3, .imm8 .intIb, .bare .into, .bare .iret]

/-- Opcodes D0 to DF. -/
def opcodeRowD : List Form := [
  .modrm (.group groupShiftByteOne), .modrm (.group groupShiftWordOne), .modrm (.group groupShiftByteCl), .modrm (.group groupShiftWordCl),
  .imm8 .aam, .imm8 .aad, .unassigned, .bare .xlat,
  .unassigned, .unassigned, .unassigned, .unassigned,
  .unassigned, .unassigned, .unassigned, .unassigned]

/-- Opcodes E0 to EF. -/
def opcodeRowE : List Form := [
  .imm8 .loopne, .imm8 .loope, .imm8 .loop, .imm8 .jcxz,
  .imm8 .inAlIb, .imm8 .inAxIb, .imm8 .outIbAl, .imm8 .outIbAx,
  .imm16 .callNear, .imm16 .jmpNear, .far .jmpFar, .imm8 .jmpShort,
  .bare .inAlDx, .bare .inAxDx, .bare .outDxAl, .bare .outDxAx]

/-- Opcodes F0 to FF. -/
def opcodeRowF : List Form := [
  .bare .lockF0, .bare .lockF1, .bare .repnz, .bare .repz,
  .bare .hlt, .bare .cmc, .modrm (.group groupUnaryByte), .modrm (.group groupUnaryWord),
  .bare .clc, .bare .stc, .bare .cli, .bare .sti,
  .bare .cld, .bare .std, .modrm (.group groupIncDecByte), .modrm (.group groupFive)]

/-- The 256 entries of the map. -/
def opcodeRows : List Form :=
  opcodeRow0 ++ opcodeRow1 ++ opcodeRow2 ++ opcodeRow3 ++ opcodeRow4 ++ opcodeRow5 ++ opcodeRow6 ++ opcodeRow7
    ++ opcodeRow8 ++ opcodeRow9 ++ opcodeRowA ++ opcodeRowB ++ opcodeRowC ++ opcodeRowD ++ opcodeRowE ++ opcodeRowF

/-- The form of an opcode byte. -/
def opcodeMap (op : Byte) : Form := opcodeRows.getD op.toNat .unassigned

/-- Decode the instruction at the head of a byte list: the instruction and the bytes after it (R104, R124). A malformed ModR/M
combination is reported after its opcode and ModR/M bytes: what else would be fetched is discarded with the step (R504; log 7). -/
def decode : List Byte → Parsed Instr
  | [] => .error .truncated
  | op :: bs => parseForm op (opcodeMap op) bs

/-- Whether an instruction term is a prefix byte: the step then goes on with the next byte (R104, R105). -/
def Instr.isPrefix : Instr → Bool
  | .prefixEs | .prefixCs | .prefixSs | .prefixDs | .lockF0 | .lockF1 | .repnz | .repz => true
  | _ => false

/-- The opcode bytes that are wholly tier 2 and have malformed ModR/M combinations (R502). -/
def isTier2Only (op : Byte) : Bool := op == 0x8F || op == 0xC4 || op == 0xC5 || op == 0xFE

/-! ## Words of the opcode table (R127; log 9) -/

/-- The bytes of a table word: the table numbers the opcode byte as bits 15:8 and the ModR/M byte as bits 7:0 (R127), and a
further byte counts on from bit 16. A word of at most 8 bits is an opcode byte alone. -/
def tableBytes (nbits w : Nat) : List Byte :=
  if nbits ≤ 8 then [BitVec.ofNat 8 w]
  else [BitVec.ofNat 8 (w / 256), BitVec.ofNat 8 w]
    ++ (List.range ((nbits + 7) / 8 - 2)).map (fun k => BitVec.ofNat 8 (w / 2 ^ (8 * (k + 2))))

/-- The table word as it is fetched, with zeros after it: as many as the longest instruction and one prefix can need. -/
def tableStream (nbits w : Nat) : List Byte := tableBytes nbits w ++ List.replicate 7 0

/-- The instruction the decoder reads from a table word. -/
def decodeTableWord (nbits w : Nat) : Option Instr :=
  match decode (tableStream nbits w) with
  | .ok p => some p.1
  | .error _ => none

/-! ## The encoder -/

/-- The two bytes of a word in the instruction stream, low byte first (R103, R113). -/
def wordBytes (v : Word) : List Byte := [v.extractLsb' 0 8, v.extractLsb' 8 8]

/-- A ModR/M byte from its fields (R111). -/
def modrmByte (mod : BitVec 2) (reg rm : BitVec 3) : Byte := mod ++ reg ++ rm

/-- ModR/M byte and displacement of a memory form (R112, R143). -/
def encMem (m : MemRef) (reg : BitVec 3) : List Byte :=
  match m with
  | .direct d => modrmByte 0 reg 6 :: wordBytes d
  | .based b .none => [modrmByte 0 reg b.bits]
  | .based b (.d8 d) => [modrmByte 1 reg b.bits, d]
  | .based b (.d16 d) => modrmByte 2 reg b.bits :: wordBytes d

/-- ModR/M byte and displacement of an `E` operand (R141, R142). -/
def encRm {ρ : Type} (bits : ρ → BitVec 3) (e : Rm ρ) (reg : BitVec 3) : List Byte :=
  match e with
  | .reg r => [modrmByte 3 reg (bits r)]
  | .mem m => encMem m reg

/-- The bytes of an instruction: opcode, ModR/M, displacement, immediate (R100), from the Encodings line of its rule. -/
def encode : Instr → List Byte
  | .addEbGb e g => 0x00 :: encRm Reg8.bits e g.bits
  | .addEvGv e g => 0x01 :: encRm Reg16.bits e g.bits
  | .addGbEb g e => 0x02 :: encRm Reg8.bits e g.bits
  | .addGvEv g e => 0x03 :: encRm Reg16.bits e g.bits
  | .addAlIb imm => [0x04, imm]
  | .addAxIv imm => 0x05 :: wordBytes imm
  | .orEbGb e g => 0x08 :: encRm Reg8.bits e g.bits
  | .orEvGv e g => 0x09 :: encRm Reg16.bits e g.bits
  | .orGbEb g e => 0x0A :: encRm Reg8.bits e g.bits
  | .orGvEv g e => 0x0B :: encRm Reg16.bits e g.bits
  | .orAlIb imm => [0x0C, imm]
  | .orAxIv imm => 0x0D :: wordBytes imm
  | .adcEbGb e g => 0x10 :: encRm Reg8.bits e g.bits
  | .adcEvGv e g => 0x11 :: encRm Reg16.bits e g.bits
  | .adcGbEb g e => 0x12 :: encRm Reg8.bits e g.bits
  | .adcGvEv g e => 0x13 :: encRm Reg16.bits e g.bits
  | .adcAlIb imm => [0x14, imm]
  | .adcAxIv imm => 0x15 :: wordBytes imm
  | .sbbEbGb e g => 0x18 :: encRm Reg8.bits e g.bits
  | .sbbEvGv e g => 0x19 :: encRm Reg16.bits e g.bits
  | .sbbGbEb g e => 0x1A :: encRm Reg8.bits e g.bits
  | .sbbGvEv g e => 0x1B :: encRm Reg16.bits e g.bits
  | .sbbAlIb imm => [0x1C, imm]
  | .sbbAxIv imm => 0x1D :: wordBytes imm
  | .andEbGb e g => 0x20 :: encRm Reg8.bits e g.bits
  | .andEvGv e g => 0x21 :: encRm Reg16.bits e g.bits
  | .andGbEb g e => 0x22 :: encRm Reg8.bits e g.bits
  | .andGvEv g e => 0x23 :: encRm Reg16.bits e g.bits
  | .andAlIb imm => [0x24, imm]
  | .andAxIv imm => 0x25 :: wordBytes imm
  | .subEbGb e g => 0x28 :: encRm Reg8.bits e g.bits
  | .subEvGv e g => 0x29 :: encRm Reg16.bits e g.bits
  | .subGbEb g e => 0x2A :: encRm Reg8.bits e g.bits
  | .subGvEv g e => 0x2B :: encRm Reg16.bits e g.bits
  | .subAlIb imm => [0x2C, imm]
  | .subAxIv imm => 0x2D :: wordBytes imm
  | .xorEbGb e g => 0x30 :: encRm Reg8.bits e g.bits
  | .xorEvGv e g => 0x31 :: encRm Reg16.bits e g.bits
  | .xorGbEb g e => 0x32 :: encRm Reg8.bits e g.bits
  | .xorGvEv g e => 0x33 :: encRm Reg16.bits e g.bits
  | .xorAlIb imm => [0x34, imm]
  | .xorAxIv imm => 0x35 :: wordBytes imm
  | .cmpEbGb e g => 0x38 :: encRm Reg8.bits e g.bits
  | .cmpEvGv e g => 0x39 :: encRm Reg16.bits e g.bits
  | .cmpGbEb g e => 0x3A :: encRm Reg8.bits e g.bits
  | .cmpGvEv g e => 0x3B :: encRm Reg16.bits e g.bits
  | .cmpAlIb imm => [0x3C, imm]
  | .cmpAxIv imm => 0x3D :: wordBytes imm
  | .addEbIb e imm => 0x80 :: encRm Reg8.bits e 0#3 ++ [imm]
  | .addEvIv e imm => 0x81 :: encRm Reg16.bits e 0#3 ++ wordBytes imm
  | .addEbIb82 e imm => 0x82 :: encRm Reg8.bits e 0#3 ++ [imm]
  | .addEvIbs e imm => 0x83 :: encRm Reg16.bits e 0#3 ++ [imm]
  | .orEbIb e imm => 0x80 :: encRm Reg8.bits e 1#3 ++ [imm]
  | .orEvIv e imm => 0x81 :: encRm Reg16.bits e 1#3 ++ wordBytes imm
  | .orEbIb82 e imm => 0x82 :: encRm Reg8.bits e 1#3 ++ [imm]
  | .orEvIbs e imm => 0x83 :: encRm Reg16.bits e 1#3 ++ [imm]
  | .adcEbIb e imm => 0x80 :: encRm Reg8.bits e 2#3 ++ [imm]
  | .adcEvIv e imm => 0x81 :: encRm Reg16.bits e 2#3 ++ wordBytes imm
  | .adcEbIb82 e imm => 0x82 :: encRm Reg8.bits e 2#3 ++ [imm]
  | .adcEvIbs e imm => 0x83 :: encRm Reg16.bits e 2#3 ++ [imm]
  | .sbbEbIb e imm => 0x80 :: encRm Reg8.bits e 3#3 ++ [imm]
  | .sbbEvIv e imm => 0x81 :: encRm Reg16.bits e 3#3 ++ wordBytes imm
  | .sbbEbIb82 e imm => 0x82 :: encRm Reg8.bits e 3#3 ++ [imm]
  | .sbbEvIbs e imm => 0x83 :: encRm Reg16.bits e 3#3 ++ [imm]
  | .andEbIb e imm => 0x80 :: encRm Reg8.bits e 4#3 ++ [imm]
  | .andEvIv e imm => 0x81 :: encRm Reg16.bits e 4#3 ++ wordBytes imm
  | .andEbIb82 e imm => 0x82 :: encRm Reg8.bits e 4#3 ++ [imm]
  | .andEvIbs e imm => 0x83 :: encRm Reg16.bits e 4#3 ++ [imm]
  | .subEbIb e imm => 0x80 :: encRm Reg8.bits e 5#3 ++ [imm]
  | .subEvIv e imm => 0x81 :: encRm Reg16.bits e 5#3 ++ wordBytes imm
  | .subEbIb82 e imm => 0x82 :: encRm Reg8.bits e 5#3 ++ [imm]
  | .subEvIbs e imm => 0x83 :: encRm Reg16.bits e 5#3 ++ [imm]
  | .xorEbIb e imm => 0x80 :: encRm Reg8.bits e 6#3 ++ [imm]
  | .xorEvIv e imm => 0x81 :: encRm Reg16.bits e 6#3 ++ wordBytes imm
  | .xorEbIb82 e imm => 0x82 :: encRm Reg8.bits e 6#3 ++ [imm]
  | .xorEvIbs e imm => 0x83 :: encRm Reg16.bits e 6#3 ++ [imm]
  | .cmpEbIb e imm => 0x80 :: encRm Reg8.bits e 7#3 ++ [imm]
  | .cmpEvIv e imm => 0x81 :: encRm Reg16.bits e 7#3 ++ wordBytes imm
  | .cmpEbIb82 e imm => 0x82 :: encRm Reg8.bits e 7#3 ++ [imm]
  | .cmpEvIbs e imm => 0x83 :: encRm Reg16.bits e 7#3 ++ [imm]
  | .testEbGb e g => 0x84 :: encRm Reg8.bits e g.bits
  | .testEvGv e g => 0x85 :: encRm Reg16.bits e g.bits
  | .testAlIb imm => [0xA8, imm]
  | .testAxIv imm => 0xA9 :: wordBytes imm
  | .testEbIb e imm => 0xF6 :: encRm Reg8.bits e 0#3 ++ [imm]
  | .testEvIv e imm => 0xF7 :: encRm Reg16.bits e 0#3 ++ wordBytes imm
  | .incR16 r => [regOpcode 0x40 r]
  | .incEb e => 0xFE :: encRm Reg8.bits e 0#3
  | .incEv e => 0xFF :: encRm Reg16.bits e 0#3
  | .decR16 r => [regOpcode 0x48 r]
  | .decEb e => 0xFE :: encRm Reg8.bits e 1#3
  | .decEv e => 0xFF :: encRm Reg16.bits e 1#3
  | .notEb e => 0xF6 :: encRm Reg8.bits e 2#3
  | .notEv e => 0xF7 :: encRm Reg16.bits e 2#3
  | .negEb e => 0xF6 :: encRm Reg8.bits e 3#3
  | .negEv e => 0xF7 :: encRm Reg16.bits e 3#3
  | .daa => [0x27]
  | .das => [0x2F]
  | .aaa => [0x37]
  | .aas => [0x3F]
  | .aam imm => [0xD4, imm]
  | .aad imm => [0xD5, imm]
  | .rolEb1 e => 0xD0 :: encRm Reg8.bits e 0#3
  | .rolEv1 e => 0xD1 :: encRm Reg16.bits e 0#3
  | .rolEbCl e => 0xD2 :: encRm Reg8.bits e 0#3
  | .rolEvCl e => 0xD3 :: encRm Reg16.bits e 0#3
  | .rorEb1 e => 0xD0 :: encRm Reg8.bits e 1#3
  | .rorEv1 e => 0xD1 :: encRm Reg16.bits e 1#3
  | .rorEbCl e => 0xD2 :: encRm Reg8.bits e 1#3
  | .rorEvCl e => 0xD3 :: encRm Reg16.bits e 1#3
  | .rclEb1 e => 0xD0 :: encRm Reg8.bits e 2#3
  | .rclEv1 e => 0xD1 :: encRm Reg16.bits e 2#3
  | .rclEbCl e => 0xD2 :: encRm Reg8.bits e 2#3
  | .rclEvCl e => 0xD3 :: encRm Reg16.bits e 2#3
  | .rcrEb1 e => 0xD0 :: encRm Reg8.bits e 3#3
  | .rcrEv1 e => 0xD1 :: encRm Reg16.bits e 3#3
  | .rcrEbCl e => 0xD2 :: encRm Reg8.bits e 3#3
  | .rcrEvCl e => 0xD3 :: encRm Reg16.bits e 3#3
  | .shlEb1 e => 0xD0 :: encRm Reg8.bits e 4#3
  | .shlEv1 e => 0xD1 :: encRm Reg16.bits e 4#3
  | .shlEbCl e => 0xD2 :: encRm Reg8.bits e 4#3
  | .shlEvCl e => 0xD3 :: encRm Reg16.bits e 4#3
  | .shrEb1 e => 0xD0 :: encRm Reg8.bits e 5#3
  | .shrEv1 e => 0xD1 :: encRm Reg16.bits e 5#3
  | .shrEbCl e => 0xD2 :: encRm Reg8.bits e 5#3
  | .shrEvCl e => 0xD3 :: encRm Reg16.bits e 5#3
  | .sarEb1 e => 0xD0 :: encRm Reg8.bits e 7#3
  | .sarEv1 e => 0xD1 :: encRm Reg16.bits e 7#3
  | .sarEbCl e => 0xD2 :: encRm Reg8.bits e 7#3
  | .sarEvCl e => 0xD3 :: encRm Reg16.bits e 7#3
  | .mulEb e => 0xF6 :: encRm Reg8.bits e 4#3
  | .mulEv e => 0xF7 :: encRm Reg16.bits e 4#3
  | .imulEb e => 0xF6 :: encRm Reg8.bits e 5#3
  | .imulEv e => 0xF7 :: encRm Reg16.bits e 5#3
  | .divEb e => 0xF6 :: encRm Reg8.bits e 6#3
  | .divEv e => 0xF7 :: encRm Reg16.bits e 6#3
  | .idivEb e => 0xF6 :: encRm Reg8.bits e 7#3
  | .idivEv e => 0xF7 :: encRm Reg16.bits e 7#3
  | .movEbGb e g => 0x88 :: encRm Reg8.bits e g.bits
  | .movEvGv e g => 0x89 :: encRm Reg16.bits e g.bits
  | .movGbEb g e => 0x8A :: encRm Reg8.bits e g.bits
  | .movGvEv g e => 0x8B :: encRm Reg16.bits e g.bits
  | .movEwSw e sr => 0x8C :: encRm Reg16.bits e sr.bits3
  | .leaGvM g m => 0x8D :: encMem m g.bits
  | .movSwEw sr e => 0x8E :: encRm Reg16.bits e sr.bits3
  | .movAlOb off => 0xA0 :: wordBytes off
  | .movAxOv off => 0xA1 :: wordBytes off
  | .movObAl off => 0xA2 :: wordBytes off
  | .movOvAx off => 0xA3 :: wordBytes off
  | .movR8Ib r imm => [0xB0 ||| r.bits.setWidth 8, imm]
  | .movR16Iv r imm => regOpcode 0xB8 r :: wordBytes imm
  | .movEbIb e imm => 0xC6 :: encRm Reg8.bits e 0#3 ++ [imm]
  | .movEvIv e imm => 0xC7 :: encRm Reg16.bits e 0#3 ++ wordBytes imm
  | .xchgEbGb e g => 0x86 :: encRm Reg8.bits e g.bits
  | .xchgEvGv e g => 0x87 :: encRm Reg16.bits e g.bits
  | .xchgAxCx => [0x91]
  | .xchgAxDx => [0x92]
  | .xchgAxBx => [0x93]
  | .xchgAxSp => [0x94]
  | .xchgAxBp => [0x95]
  | .xchgAxSi => [0x96]
  | .xchgAxDi => [0x97]
  | .lesGvMp g m => 0xC4 :: encMem m g.bits
  | .ldsGvMp g m => 0xC5 :: encMem m g.bits
  | .xlat => [0xD7]
  | .cbw => [0x98]
  | .cwd => [0x99]
  | .inAlIb port => [0xE4, port]
  | .inAxIb port => [0xE5, port]
  | .outIbAl port => [0xE6, port]
  | .outIbAx port => [0xE7, port]
  | .inAlDx => [0xEC]
  | .inAxDx => [0xED]
  | .outDxAl => [0xEE]
  | .outDxAx => [0xEF]
  | .pushAx => [0x50]
  | .pushCx => [0x51]
  | .pushDx => [0x52]
  | .pushBx => [0x53]
  | .pushSp => [0x54]
  | .pushBp => [0x55]
  | .pushSi => [0x56]
  | .pushDi => [0x57]
  | .popR16 r => [regOpcode 0x58 r]
  | .pushEv e => 0xFF :: encRm Reg16.bits e 6#3
  | .popEv e => 0x8F :: encRm Reg16.bits e 0#3
  | .pushEs => [0x06]
  | .pushCs => [0x0E]
  | .pushSs => [0x16]
  | .pushDs => [0x1E]
  | .popEs => [0x07]
  | .popSs => [0x17]
  | .popDs => [0x1F]
  | .pushf => [0x9C]
  | .popf => [0x9D]
  | .movsb => [0xA4]
  | .movsw => [0xA5]
  | .cmpsb => [0xA6]
  | .cmpsw => [0xA7]
  | .stosb => [0xAA]
  | .stosw => [0xAB]
  | .lodsb => [0xAC]
  | .lodsw => [0xAD]
  | .scasb => [0xAE]
  | .scasw => [0xAF]
  | .jo d => [0x70, d]
  | .jno d => [0x71, d]
  | .jb d => [0x72, d]
  | .jnb d => [0x73, d]
  | .je d => [0x74, d]
  | .jne d => [0x75, d]
  | .jbe d => [0x76, d]
  | .jnbe d => [0x77, d]
  | .js d => [0x78, d]
  | .jns d => [0x79, d]
  | .jp d => [0x7A, d]
  | .jnp d => [0x7B, d]
  | .jl d => [0x7C, d]
  | .jnl d => [0x7D, d]
  | .jle d => [0x7E, d]
  | .jnle d => [0x7F, d]
  | .jmpShort d => [0xEB, d]
  | .jmpNear d => 0xE9 :: wordBytes d
  | .jmpEv e => 0xFF :: encRm Reg16.bits e 4#3
  | .jmpFar off seg => 0xEA :: wordBytes off ++ wordBytes seg
  | .jmpMp m => 0xFF :: encMem m 5#3
  | .callNear d => 0xE8 :: wordBytes d
  | .callEv e => 0xFF :: encRm Reg16.bits e 2#3
  | .callFar off seg => 0x9A :: wordBytes off ++ wordBytes seg
  | .callMp m => 0xFF :: encMem m 3#3
  | .retNearIw n => 0xC2 :: wordBytes n
  | .retNear => [0xC3]
  | .retFarIw n => 0xCA :: wordBytes n
  | .retFar => [0xCB]
  | .loopne d => [0xE0, d]
  | .loope d => [0xE1, d]
  | .loop d => [0xE2, d]
  | .jcxz d => [0xE3, d]
  | .intIb n => [0xCD, n]
  | .unimplementedOpcode op => [op]
  | .invalidOperandEncoding op modrm => [op, modrm]
  | .clc => [0xF8]
  | .stc => [0xF9]
  | .cmc => [0xF5]
  | .cli => [0xFA]
  | .sti => [0xFB]
  | .cld => [0xFC]
  | .std => [0xFD]
  | .sahf => [0x9E]
  | .lahf => [0x9F]
  | .int3 => [0xCC]
  | .into => [0xCE]
  | .iret => [0xCF]
  | .hlt => [0xF4]
  | .nop => [0x90]
  | .prefixEs => [0x26]
  | .prefixCs => [0x2E]
  | .prefixSs => [0x36]
  | .prefixDs => [0x3E]
  | .lockF0 => [0xF0]
  | .lockF1 => [0xF1]
  | .repnz => [0xF2]
  | .repz => [0xF3]

end Sys2Proof
end

