-- ==== Sys2Proof/Machine/State.lean ====
section
/-! DEFINITION. The state of the core as plain data (10_state.md, 20_memory.md), the two ways a step can stop, and
`State.reset`. What is computed over the state is in Machine/Ops.lean and the files that import it. -/

namespace Sys2Proof.Machine

/-- The eight 16-bit general registers (R20), in the order of their encoding index (R21). -/
structure Gpr where
  ax : Word
  cx : Word
  dx : Word
  bx : Word
  sp : Word
  bp : Word
  si : Word
  di : Word
  deriving DecidableEq, Repr

/-- The six segment registers (R26). FS and GS are inert: no instruction reads or writes them (R28). -/
structure Segs where
  es : Word
  cs : Word
  ss : Word
  ds : Word
  fs : Word
  gs : Word
  deriving DecidableEq, Repr

/-- The six condition flags and the word of all other flag bits (R32). `other` holds TF (bit 8), IF (bit 9), DF (bit 10)
and the opaque bits 1, 3, 5, 12 to 15; its bits 0, 2, 4, 6, 7, 11 are always 0 (R50). -/
structure Flags where
  cf : Bool
  pf : Bool
  af : Bool
  zf : Bool
  sf : Bool
  of : Bool
  other : Word
  deriving DecidableEq, Repr

/-- The repeat mode a prefix selects (R105). -/
inductive RepMode where
  | repz
  | repnz
  deriving DecidableEq, Repr

/-- The decode context (R47): transient, cleared at the start of every step and never seen by the next one (R48). `opIp`
is the offset at which the opcode byte was fetched, `op_ip` of R104, which a fatal error reports. -/
structure DecodeCtx where
  override : Option SReg
  rep : Option RepMode
  lock : Bool
  opIp : Word
  deriving DecidableEq, Repr

/-- The context at the start of a step (R48). -/
def DecodeCtx.clear : DecodeCtx where
  override := none
  rep := none
  lock := false
  opIp := 0

/-- What the core shows its environment (R81, R86, R87). -/
inductive Event where
  /-- A byte write to a page that carries a hook: page, address before the reduction modulo `RAM_SIZE`, byte (R65). -/
  | hookWrite (page : Nat) (addr : Nat) (value : Byte)
  /-- A port read and the answer, truncated to the width (R86). -/
  | portRead (port : Word) (width : Width) (value : Word)
  /-- A port write and the value handed over (R87). -/
  | portWrite (port : Word) (width : Width) (value : Word)
  deriving DecidableEq, Repr

/-- The whole state between two steps. -/
structure State where
  /-- AX to DI (R20). -/
  gpr : Gpr
  /-- ES to GS (R26). -/
  seg : Segs
  /-- IP (R30). -/
  ip : Word
  /-- The seven flag fields (R32). -/
  flags : Flags
  /-- The decode context (R47). -/
  ctx : DecodeCtx
  /-- RAM (R60): (address, byte) pairs with addresses strictly rising, none equal to what an unlisted byte reads as. -/
  mem : List Host.Cell
  /-- The pages that carry a write hook (R78). -/
  hooks : List (Fin 256)
  /-- The events of the run so far, oldest first (R560, R570). -/
  events : List Event
  /-- The model's own field: the step just taken had the outcome Halt (R13, R476; log 5). No rule reads it. -/
  halt : Bool
  /-- The model's own field: how many draws were evaluated so far (R41; log 4). -/
  drawCount : Nat
  /-- The model's own field: how many port accesses came before, `PortIn`'s occurrence index (R86; log 4). -/
  portCount : Nat
  /-- The parameters of the instance (R7). No step changes them. -/
  cfg : Config.Params
  deriving DecidableEq, Repr

/-- The ways a step ends without a next state. The state is then the one the step began with (R504). -/
inductive Fault where
  /-- R501. Raised by the opcode bytes that select no instruction (R117, R118) and, under `STRICT_SOURCE_SET`, by every
  tier 2 instruction (R116). It reports the opcode byte and the CS:IP it was fetched at. Safe: it is the spec's own stop. -/
  | unimplementedOpcode (op : Byte) (cs : Word) (ip : Word)
  /-- R502. Raised by the malformed ModR/M combinations of R120, R121 and R122. It reports the opcode byte, the ModR/M byte and
  the CS:IP of the opcode byte. Safe: it is the spec's own stop. -/
  | invalidOperandEncoding (op : Byte) (modrm : Byte) (cs : Word) (ip : Word)
  /-- R110, U14. Raised by the step when 65,536 bytes in a row are prefixes: the spec's step never completes. Safe: stuck. -/
  | prefixLoopNeverEnds
  deriving DecidableEq, Repr

/-- The ways the model itself declines a step. -/
inductive Refusal where
  /-- Raised by an arm of `exec` whose instruction has no meaning yet. No arm does. Safe. -/
  | notModelled (mnemonic : String)
  /-- Raised by the step if the decoder ran out of bytes. It cannot: the window holds six bytes and no instruction is longer
  (R101; `Laws.decode_window`). Safe. -/
  | truncatedFetch
  deriving DecidableEq, Repr

/-- The machine right after reset: CS:IP at the reset vector (R44), FLAGS from `FLAGS_RESET` (R45), the decode context
clear (R46). DESIGN CHOICE (log 1, unsafe): the registers the spec leaves unspecified are 0. DESIGN CHOICE (log 2, unsafe): no
byte of RAM is listed. DESIGN CHOICE (log 3, unsafe): the parameters of `Config.launch` and no hook. The reset INPUT, which
leaves every other piece of any state as it was, is `State.resetInput` in Machine/Ops.lean. -/
def State.reset : State where
  gpr := { ax := 0, cx := 0, dx := 0, bx := 0, sp := 0, bp := 0, si := 0, di := 0 }
  seg := { es := 0, cs := 0xF000, ss := 0, ds := 0, fs := 0, gs := 0 }
  ip := 0xFFF0
  flags := { cf := false, pf := false, af := false, zf := false, sf := false, of := false, other := 0x0002 }
  ctx := DecodeCtx.clear
  mem := []
  hooks := []
  events := []
  halt := false
  drawCount := 0
  portCount := 0
  cfg := Config.launch

end Sys2Proof.Machine
end

