-- ==== Sys2Proof/Machine/Ops.lean ====
section
/-! DEFINITION. The named operations over registers, memory, ports, the stack and the reset input (10_state.md, 20_memory.md,
46_stack.md), and interrupt entry and return, which every event of the core shares (60_exceptions.md). -/

namespace Sys2Proof.Machine

/-! ## Halves of a word and sign extension (R15) -/

/-- Bits 7:0 of a word. -/
def loByte (v : Word) : Byte := v.extractLsb' 0 8

/-- Bits 15:8 of a word. -/
def hiByte (v : Word) : Byte := v.extractLsb' 8 8

/-- `hi ++ lo`, the high half first (R15, R22). -/
def wordOf (hi lo : Byte) : Word := hi ++ lo

/-- `trunc_16(sext_8(b))` (R113, R189). -/
def sext8 (b : Byte) : Word := b.signExtend 16

/-! ## General registers (R20 to R24) -/

/-- The word in general register `r` (R21). -/
def Gpr.get (g : Gpr) : Reg16 → Word
  | .ax => g.ax
  | .cx => g.cx
  | .dx => g.dx
  | .bx => g.bx
  | .sp => g.sp
  | .bp => g.bp
  | .si => g.si
  | .di => g.di

/-- The registers with `r` holding `v` (R20). -/
def Gpr.set (g : Gpr) (r : Reg16) (v : Word) : Gpr :=
  match r with
  | .ax => { g with ax := v }
  | .cx => { g with cx := v }
  | .dx => { g with dx := v }
  | .bx => { g with bx := v }
  | .sp => { g with sp := v }
  | .bp => { g with bp := v }
  | .si => { g with si := v }
  | .di => { g with di := v }

/-- The 16-bit register a byte register is a half of (R22, R23). -/
def byteParent : Reg8 → Reg16
  | .al | .ah => .ax
  | .cl | .ch => .cx
  | .dl | .dh => .dx
  | .bl | .bh => .bx

/-- Whether a byte register is the high half of its parent (R23). -/
def isHighHalf : Reg8 → Bool
  | .al | .cl | .dl | .bl => false
  | .ah | .ch | .dh | .bh => true

/-- `r16[r]` (R16). -/
def State.reg16 (s : State) (r : Reg16) : Word := s.gpr.get r

/-- `r16[r] <- v` (R16). -/
def State.setReg16 (s : State) (r : Reg16) (v : Word) : State := { s with gpr := s.gpr.set r v }

/-- `r8[r]` (R23). -/
def State.reg8 (s : State) (r : Reg8) : Byte :=
  if isHighHalf r then hiByte (s.reg16 (byteParent r)) else loByte (s.reg16 (byteParent r))

/-- `r8[r] <- v`: the other half of the parent keeps its value (R24). -/
def State.setReg8 (s : State) (r : Reg8) (v : Byte) : State :=
  s.setReg16 (byteParent r)
    (if isHighHalf r then wordOf v (loByte (s.reg16 (byteParent r))) else wordOf (hiByte (s.reg16 (byteParent r))) v)

/-! ## Segment registers, IP, flags, decode context -/

/-- `sreg[r]` for the four registers an encoding can name (R27). -/
def Segs.get (g : Segs) : SReg → Word
  | .es => g.es
  | .cs => g.cs
  | .ss => g.ss
  | .ds => g.ds

/-- The segment registers with `r` holding `v`. -/
def Segs.set (g : Segs) (r : SReg) (v : Word) : Segs :=
  match r with
  | .es => { g with es := v }
  | .cs => { g with cs := v }
  | .ss => { g with ss := v }
  | .ds => { g with ds := v }

/-- `sreg[r]` (R16). -/
def State.sreg (s : State) (r : SReg) : Word := s.seg.get r

/-- `sreg[r] <- v` (R26): the value itself is the whole register, in force from the next access on (R29). -/
def State.setSreg (s : State) (r : SReg) (v : Word) : State := { s with seg := s.seg.set r v }

/-- `IP <- v` (R16, R30). -/
def State.setIp (s : State) (v : Word) : State := { s with ip := v }

/-- The seven flag fields replaced together; each instruction's flag rule builds the new record from the old. -/
def State.setFlags (s : State) (f : Flags) : State := { s with flags := f }

/-- The decode context replaced (R47). -/
def State.setCtx (s : State) (c : DecodeCtx) : State := { s with ctx := c }

/-- The Halt signal of the step set or cleared (R13, log 5). -/
def State.setHalt (s : State) (b : Bool) : State := { s with halt := b }

/-- One event appended to the run's list (R81, R86, R87). -/
def State.emit (s : State) (e : Event) : State := { s with events := s.events ++ [e] }

/-- The RAM contents replaced. -/
def State.setMem (s : State) (m : List Host.Cell) : State := { s with mem := m }

/-! ## The packed FLAGS word (R33, R34) -/

/-- One flag at bit `k` of a word. -/
def flagBit (b : Bool) (k : Nat) : Word := if b then 1#16 <<< k else 0#16

/-- The packed read: no bit is forced (R33). -/
def Flags.pack (f : Flags) : Word :=
  f.other ||| flagBit f.cf 0 ||| flagBit f.pf 2 ||| flagBit f.af 4 ||| flagBit f.zf 6 ||| flagBit f.sf 7 ||| flagBit f.of 11

/-- The packed write: every one of the sixteen bits is stored (R34). -/
def Flags.unpack (v : Word) : Flags where
  cf := v.getLsbD 0
  pf := v.getLsbD 2
  af := v.getLsbD 4
  zf := v.getLsbD 6
  sf := v.getLsbD 7
  of := v.getLsbD 11
  other := v &&& 0xF72A#16

/-- `FLAGS <- v` (R16, R34). -/
def State.setFlagsWord (s : State) (v : Word) : State := s.setFlags (Flags.unpack v)

/-- DF, bit 10 (R32, R374). -/
def Flags.df (f : Flags) : Bool := f.other.getLsbD 10

/-- TF and IF cleared, as interrupt entry does (R506). -/
def Flags.clearTfIf (f : Flags) : Flags := { f with other := f.other &&& ~~~0x0300#16 }

/-! ## Draws (R41) -/

/-- The k-th draw of the instruction being executed, counted from 0 (log 4). -/
def State.draw (s : State) (k : Nat) : Bool := Config.draw (s.drawCount + k)

/-- The state after `n` draws were evaluated: the next instruction's draws are fresh ones. -/
def State.tookDraws (s : State) (n : Nat) : State := { s with drawCount := s.drawCount + n }

/-! ## RAM (R60 to R67) -/

/-- What a byte of RAM that is not listed reads as. DESIGN CHOICE (log 2, unsafe): R46 leaves power-on RAM arbitrary. -/
def Memory.unlisted : Byte := 0

/-- The byte at key `a`. -/
def Memory.get : List Host.Cell → Nat → Byte
  | [], _ => Memory.unlisted
  | (k, v) :: m, a => if k = a then v else Memory.get m a

/-- The list with `a` holding `b`, `b` not being the unlisted byte: in place, or before the first larger key. -/
def Memory.insert : List Host.Cell → Nat → Byte → List Host.Cell
  | [], a, b => [(a, b)]
  | (k, v) :: m, a, b =>
    if a < k then (a, b) :: (k, v) :: m
    else if k = a then (a, b) :: m
    else (k, v) :: Memory.insert m a b

/-- The RAM after byte `b` is stored at key `a`: storing the unlisted byte removes the entry, so equal memories are equal lists. -/
def Memory.set (m : List Host.Cell) (a : Nat) (b : Byte) : List Host.Cell :=
  if b = Memory.unlisted then m.filter (fun c => c.1 ≠ a) else Memory.insert m a b

/-- The canonical form: addresses strictly rising, no entry equal to the unlisted byte. -/
abbrev Memory.wf (m : List Host.Cell) : Prop :=
  m.Pairwise (fun c d => c.1 < d.1) ∧ ∀ c ∈ m, c.2 ≠ Memory.unlisted

/-- `RAM_SIZE` of R9: the request rounded up to at least 1 MiB and to the next power of two. -/
def ramSizeOf (request : Nat) : Nat := if request ≤ 2 ^ 20 then 2 ^ 20 else 2 ^ (Nat.log2 (request - 1) + 1)

/-- `RAM_SIZE` of this instance. -/
def State.ramSize (s : State) : Nat := ramSizeOf s.cfg.ramRequest

/-- `MemRead(a, 1)` (R64), also the host's `read_byte` (R94). -/
def State.readByte (s : State) (a : Nat) : Byte := Memory.get s.mem (a % s.ramSize)

/-- The hook event of a byte write: the page is taken from the address before the reduction modulo `RAM_SIZE`, and no page
above 255 carries a hook (R65, R79, R81). -/
def State.hookEvent (s : State) (a : Nat) (v : Byte) : State :=
  if s.hooks.any (fun p => p.val == a / 4096) then s.emit (.hookWrite (a / 4096) a v) else s

/-- `MemWrite(a, 1, v)`: the hook first, then the store, which always happens (R65). Also the host's `write_byte` (R94):
DESIGN CHOICE (log 6): R81 records an event in its step's list and the spec names no list for a `write_byte` made outside any step;
here its event goes into `State.events` too, before the events of the run. -/
def State.writeByte (s : State) (a : Nat) (v : Byte) : State :=
  let s' := s.hookEvent a v
  s'.setMem (Memory.set s'.mem (a % s'.ramSize) v)

/-- `MemRead(a, 2)`, little-endian at a physical address: only the vector table is read this way (R66). -/
def State.readWordPhys (s : State) (a : Nat) : Word := wordOf (s.readByte (a + 1)) (s.readByte a)

/-- `MemWrite(a, 2, v)` at a physical address: the low byte at a, then the high byte at a + 1, each with its own hook lookup (R67). No
instruction writes a word this way; a segmented word write is `State.write16` (R71). -/
def State.writeWordPhys (s : State) (a : Nat) (v : Word) : State := (s.writeByte a (loByte v)).writeByte (a + 1) (hiByte v)

/-! ## Segmented access (R62, R68 to R71) -/

/-- `Translate(seg, off)`: the offset modulo 0x10000 first, then the 20-bit wrap, in both modes (R62). -/
def translate (seg : Word) (off : Nat) : Nat := (seg.toNat * 16 + off % 0x10000) % 0x100000

/-- Where the high byte of the word at seg:off is (R70): at offset + 1, but for offset 0xFFFF at offset 0 in 8086 mode and at
the next physical address in 80186 mode. -/
def highByteAddr (arch : Arch) (seg off : Word) : Nat :=
  if off = 0xFFFF#16 then
    match arch with
    | .a8086 => translate seg 0
    | .a80186 => translate seg 0xFFFF + 1
  else translate seg (off.toNat + 1)

/-- `Read8(seg, off)` (R68). -/
def State.read8 (s : State) (seg off : Word) : Byte := s.readByte (translate seg off.toNat)

/-- `Write8(seg, off, v)` (R69). -/
def State.write8 (s : State) (seg off : Word) (v : Byte) : State := s.writeByte (translate seg off.toNat) v

/-- `Read16(seg, off)` (R70). -/
def State.read16 (s : State) (seg off : Word) : Word :=
  wordOf (s.readByte (highByteAddr s.cfg.arch seg off)) (s.readByte (translate seg off.toNat))

/-- `Write16(seg, off, v)`: low byte first (R71). -/
def State.write16 (s : State) (seg off : Word) (v : Word) : State :=
  (s.writeByte (translate seg off.toNat) (loByte v)).writeByte (highByteAddr s.cfg.arch seg off) (hiByte v)

/-! ## Ports (R84 to R87) -/

/-- `PortRead(port, n)`'s answer, truncated to the width (R86). -/
def State.portAnswer (s : State) (port : Word) (w : Width) : Word :=
  match w with
  | .byte => (BitVec.ofNat 8 (Config.portIn port w s.portCount)).setWidth 16
  | .word => BitVec.ofNat 16 (Config.portIn port w s.portCount)

/-- The state after a port read: the event is appended and one more port access has happened (R86). -/
def State.afterPortRead (s : State) (port : Word) (w : Width) : State :=
  let s' := s.emit (.portRead port w (s.portAnswer port w))
  { s' with portCount := s'.portCount + 1 }

/-- `PortWrite(port, n, v)`: the event is appended, no core state changes (R87). -/
def State.portWrite (s : State) (port : Word) (w : Width) (v : Word) : State :=
  let s' := s.emit (.portWrite port w v)
  { s' with portCount := s'.portCount + 1 }

/-! ## The stack (R340, R341) -/

/-- `Push16(v)`: SP down by 2, then the word at SS:SP with the new SP (R340). -/
def State.push16 (s : State) (v : Word) : State :=
  let sp := s.reg16 .sp - 2
  (s.setReg16 .sp sp).write16 (s.sreg .ss) sp v

/-- The word on top of the stack (R341). -/
def State.top16 (s : State) : Word := s.read16 (s.sreg .ss) (s.reg16 .sp)

/-- `Pop16()`'s effect on SP; the popped word is `State.top16` of the state before (R341). -/
def State.dropTop (s : State) : State := s.setReg16 .sp (s.reg16 .sp + 2)

/-! ## Interrupt entry and return (R506, R474) -/

/-- `Interrupt(n)`: FLAGS, CS, IP pushed in this order, CS:IP loaded from the vector at physical 4n after the pushes, TF and IF
cleared (R506). DivideFault, INT, INT3 and INTO all enter this way (R500). -/
def State.interrupt (s : State) (n : Byte) : State :=
  let p := ((s.push16 s.flags.pack).push16 (s.sreg .cs)).push16 s.ip
  let newIp := p.readWordPhys (n.toNat * 4)
  let newCs := p.readWordPhys (n.toNat * 4 + 2)
  ((p.setIp newIp).setSreg .cs newCs).setFlags p.flags.clearTfIf

/-- `raise DivideFault`: vector 0, nothing else written (R503). -/
def State.divideFault (s : State) : State := s.interrupt 0

/-- Return from an interrupt: pop IP, pop CS, pop FLAGS, all sixteen bits (R474, R507). The three pops use the same SS. -/
def State.interruptReturn (s : State) : State :=
  let s1 := s.dropTop
  let s2 := s1.dropTop
  ((s2.dropTop.setIp s.top16).setSreg .cs s1.top16).setFlagsWord s2.top16

/-! ## Fatal errors (R501, R502) -/

/-- What one step answers. -/
abbrev Result := Host.Outcome State Fault Refusal

/-- `raise UnimplementedOpcode(op, CS, op_ip)` (R501). CS is unchanged since the opcode byte was fetched: decode writes no register. -/
def State.raiseUnimplemented (s : State) (op : Byte) : Result := .fault (.unimplementedOpcode op s.seg.cs s.ctx.opIp)

/-- `raise InvalidOperandEncoding(op, modrm, CS, op_ip)` (R502). -/
def State.raiseInvalidEncoding (s : State) (op modrm : Byte) : Result :=
  .fault (.invalidOperandEncoding op modrm s.seg.cs s.ctx.opIp)

/-- A tier 2 instruction with opcode byte `op`: fatal under `STRICT_SOURCE_SET`, otherwise `t` (R116). -/
def State.tier2 (s : State) (op : Byte) (t : State) : Result :=
  if s.cfg.strictSourceSet then s.raiseUnimplemented op else .next t

/-! ## The reset input and the host's other moves (R550, R580) -/

/-- `reset()`: CS, IP, FLAGS and the decode context, nothing else (R44, R45, R550). -/
def State.resetInput (s : State) : State :=
  (((s.setSreg .cs 0xF000).setIp 0xFFF0).setFlagsWord s.cfg.flagsReset).setCtx DecodeCtx.clear

/-- `register_hook(page, handler)`: a second registration replaces the first (R78), which this state does not tell apart,
since what a handler does is outside the block (R80). -/
def State.registerHook (s : State) (page : Fin 256) : State :=
  { s with hooks := if page ∈ s.hooks then s.hooks else page :: s.hooks }

end Sys2Proof.Machine
end

