-- ==== Sys2Proof/Machine/Flags.lean ====
section
/-! DEFINITION. The alu-with-flags unit and every other flag computation of the spec: SetSZP (R38), addition, subtraction,
logic (R171 to R173), the BCD adjusts (R220 to R231), the one-bit shift steps and the count rule (R243 to R252), multiply and
divide (R271 to R280), and the sixteen conditions (R402). Widths 8 and 16 are the two instances of one definition. -/

namespace Sys2Proof.Machine

/-! ## SetSZP (R38, R39) -/

/-- `Parity(b)`: true when the number of 1 bits is even (R39). -/
def parity (b : Byte) : Bool :=
  !(b.getLsbD 0 ^^ b.getLsbD 1 ^^ b.getLsbD 2 ^^ b.getLsbD 3 ^^ b.getLsbD 4 ^^ b.getLsbD 5 ^^ b.getLsbD 6 ^^ b.getLsbD 7)

/-- `SetSZP(w, r)`: ZF, SF and PF from the result, PF from its low byte only (R38). -/
def Flags.setSzp {w : Nat} (f : Flags) (r : BitVec w) : Flags :=
  { f with zf := r == 0#w, sf := r.msb, pf := parity (r.setWidth 8) }

/-! ## The two-operand ALU (R170 to R173) -/

/-- The eight operations in the order of their operation number (R170). -/
inductive AluOp where
  | add
  | or
  | adc
  | sbb
  | and
  | sub
  | xor
  | cmp
  deriving DecidableEq, Repr

/-- Addition with a carry in (R171): the result and the flags. -/
def addWith {w : Nat} (left right : BitVec w) (cin : Bool) (f : Flags) : BitVec w × Flags :=
  let sum := left.toNat + right.toNat + cin.toNat
  let result := BitVec.ofNat w sum
  (result,
    { f.setSzp result with
      cf := decide (2 ^ w - 1 < sum)
      af := (left ^^^ right ^^^ result).getLsbD 4
      of := ((left ^^^ result) &&& (right ^^^ result)).msb })

/-- Subtraction with a borrow in (R172): the result and the flags. -/
def subWith {w : Nat} (left right : BitVec w) (bin : Bool) (f : Flags) : BitVec w × Flags :=
  let diff : Int := (left.toNat : Int) - right.toNat - bin.toNat
  let result := BitVec.ofInt w diff
  (result,
    { f.setSzp result with
      cf := decide (diff < 0)
      af := (left ^^^ right ^^^ result).getLsbD 4
      of := ((left ^^^ right) &&& (left ^^^ result)).msb })

/-- Logic (R173): CF, AF and OF cleared, the rest from the result. -/
def logicWith {w : Nat} (result : BitVec w) (f : Flags) : BitVec w × Flags :=
  (result, { f.setSzp result with cf := false, af := false, of := false })

/-- `Alu(w, op, left, right)` (R170). -/
def alu {w : Nat} (op : AluOp) (left right : BitVec w) (f : Flags) : BitVec w × Flags :=
  match op with
  | .add => addWith left right false f
  | .or => logicWith (left ||| right) f
  | .adc => addWith left right f.cf f
  | .sbb => subWith left right f.cf f
  | .and => logicWith (left &&& right) f
  | .sub => subWith left right false f
  | .xor => logicWith (left ^^^ right) f
  | .cmp => subWith left right false f

/-- INC: addition of 1 that leaves CF as it was (R192). -/
def incWith {w : Nat} (x : BitVec w) (f : Flags) : BitVec w × Flags :=
  let r := addWith x 1#w false f
  (r.1, { r.2 with cf := f.cf })

/-- DEC: subtraction of 1 that leaves CF as it was (R193). -/
def decWith {w : Nat} (x : BitVec w) (f : Flags) : BitVec w × Flags :=
  let r := subWith x 1#w false f
  (r.1, { r.2 with cf := f.cf })

/-! ## BCD adjust (R220 to R231) -/

/-- `c1` of R221. -/
def bcdLow (al : Byte) (f : Flags) : Bool := decide (9#8 < (al &&& 0x0F#8)) || f.af

/-- `c2` of R221. -/
def bcdHigh (al : Byte) (f : Flags) : Bool := decide (0x99#8 < al) || f.cf

/-- DAA (R222). -/
def daaWith (al : Byte) (f : Flags) : Byte × Flags :=
  let al1 := if bcdLow al f then al + 0x06#8 else al
  let al2 := if bcdHigh al f then al1 + 0x60#8 else al1
  (al2, { f.setSzp al2 with af := bcdLow al f, cf := bcdHigh al f, of := false })

/-- DAS (R223): CF is `c2` alone. -/
def dasWith (al : Byte) (f : Flags) : Byte × Flags :=
  let al1 := if bcdLow al f then al - 0x06#8 else al
  let al2 := if bcdHigh al f then al1 - 0x60#8 else al1
  (al2, { f.setSzp al2 with af := bcdLow al f, cf := bcdHigh al f, of := false })

/-- AAA on AX (R224): AL and AH are adjusted separately. -/
def aaaAx (ax : Word) (f : Flags) : Word :=
  if bcdLow (loByte ax) f then wordOf (hiByte ax + 1#8) ((loByte ax + 0x06#8) &&& 0x0F#8)
  else wordOf (hiByte ax) (loByte ax &&& 0x0F#8)

/-- AAS on AX (R225). -/
def aasAx (ax : Word) (f : Flags) : Word :=
  if bcdLow (loByte ax) f then wordOf (hiByte ax - 1#8) ((loByte ax - 0x06#8) &&& 0x0F#8)
  else wordOf (hiByte ax) (loByte ax &&& 0x0F#8)

/-- The flags of AAA and AAS: AF and CF follow `c1`, OF is 0, and SF, ZF, PF are the three draws (R224, R225). -/
def asciiFlags (al : Byte) (f : Flags) (sf zf pf : Bool) : Flags :=
  { f with af := bcdLow al f, cf := bcdLow al f, of := false, sf := sf, zf := zf, pf := pf }

/-! ## Shifts and rotates (R240 to R254) -/

/-- The seven operations of group 2 (R241). -/
inductive ShiftOp where
  | rol
  | ror
  | rcl
  | rcr
  | shl
  | shr
  | sar
  deriving DecidableEq, Repr

/-- A Boolean as bit 0 of a w-bit value. -/
def bitLow (w : Nat) (b : Bool) : BitVec w := if b then 1#w else 0#w

/-- A Boolean as the top bit of a w-bit value. -/
def bitTop (w : Nat) (b : Bool) : BitVec w := if b then BitVec.twoPow w (w - 1) else 0#w

/-- One bit step: the new operand and the new CF, the bit that left the operand (R245 to R252). -/
def shiftStep {w : Nat} (op : ShiftOp) (x : BitVec w) (cf : Bool) : BitVec w × Bool :=
  match op with
  | .rol => ((x <<< 1) ||| bitLow w x.msb, x.msb)
  | .ror => ((x >>> 1) ||| bitTop w (x.getLsbD 0), x.getLsbD 0)
  | .rcl => ((x <<< 1) ||| bitLow w cf, x.msb)
  | .rcr => ((x >>> 1) ||| bitTop w cf, x.getLsbD 0)
  | .shl => (x <<< 1, x.msb)
  | .shr => (x >>> 1, x.getLsbD 0)
  | .sar => ((x >>> 1) ||| bitTop w x.msb, x.getLsbD 0)

/-- The bit step applied `n` times (R245). -/
def shiftSteps {w : Nat} (op : ShiftOp) : Nat → BitVec w → Bool → BitVec w × Bool
  | 0, x, cf => (x, cf)
  | n + 1, x, cf => shiftSteps op n (shiftStep op x cf).1 (shiftStep op x cf).2

/-- The one-bit OF from the final operand and the final CF: top bit against CF for the left-moving operations, top bit against
the next for the right-moving ones (R246 to R253). -/
def shiftOf {w : Nat} (op : ShiftOp) (x : BitVec w) (cf : Bool) : Bool :=
  match op with
  | .rol | .rcl | .shl => x.msb ^^ cf
  | .ror | .rcr | .shr | .sar => x.getMsbD 0 ^^ x.getMsbD 1

/-- Whether the operation is one of the three shifts, which also write ZF, SF, PF and draw AF (R245). -/
def ShiftOp.isShift : ShiftOp → Bool
  | .shl | .shr | .sar => true
  | .rol | .ror | .rcl | .rcr => false

/-- How many draws a shift or rotate by `n` evaluates: OF when n is not 1, then AF for the shifts (R245). -/
def shiftDraws (op : ShiftOp) (n : Nat) : Nat := (if n = 1 then 0 else 1) + (if op.isShift then 1 else 0)

/-- The flags after a shift or rotate by `n` that left `x` and `cf`; `d0`, `d1` are the step's draws in order (R245). -/
def shiftFlags {w : Nat} (op : ShiftOp) (n : Nat) (x : BitVec w) (cf : Bool) (f : Flags) (d0 d1 : Bool) : Flags :=
  let f1 := { f with cf := cf, of := if n = 1 then shiftOf op x cf else d0 }
  if op.isShift then { f1.setSzp x with af := if n = 1 then d0 else d1 } else f1

/-- The count from CL for a w-bit operand: CL itself in 8086 mode, CL modulo the width in 80186 mode (R243). -/
def countOfCl (arch : Arch) (w : Nat) (cl : Byte) : Nat :=
  match arch with
  | .a8086 => cl.toNat
  | .a80186 => cl.toNat % w

/-! ## Multiply and divide (R270 to R282) -/

/-- The flags of MUL and IMUL: CF and OF together, then the draws SF, ZF, PF, AF (R271 to R274). -/
def mulFlags (f : Flags) (high sf zf pf af : Bool) : Flags :=
  { f with cf := high, of := high, sf := sf, zf := zf, pf := pf, af := af }

/-- The flags of DIV and IDIV: all six are draws (R275 to R278). -/
def divFlags (f : Flags) (cf pf af zf sf of : Bool) : Flags :=
  { f with cf := cf, pf := pf, af := af, zf := zf, sf := sf, of := of }

/-- Unsigned division of `n` by `d` into a w-bit quotient and remainder; none is the divide fault (R275, R276). -/
def udivide (w n d : Nat) : Option (BitVec w × BitVec w) :=
  if d = 0 then none
  else if 2 ^ w - 1 < n / d then none
  else some (BitVec.ofNat w (n / d), BitVec.ofNat w (n % d))

/-- Signed division toward zero into a w-bit quotient and remainder; none is the divide fault (R277, R278, R280). The whole
two's-complement range of quotients is admitted. -/
def sdivide (w : Nat) (n d : Int) : Option (BitVec w × BitVec w) :=
  if d = 0 then none
  else
    let q := n.tdiv d
    if q < -(2 ^ (w - 1) : Int) ∨ (2 ^ (w - 1) : Int) - 1 < q then none
    else some (BitVec.ofInt w q, BitVec.ofInt w (n - q * d))

/-! ## Conditions (R402) -/

/-- The sixteen conditions in the order of cc = opcode[3:0] (R402). -/
inductive Cond where
  | o
  | no
  | b
  | nb
  | e
  | ne
  | be
  | nbe
  | s
  | ns
  | p
  | np
  | l
  | nl
  | le
  | nle
  deriving DecidableEq, Repr

/-- When the condition holds (the table of R402). -/
def Cond.holds (c : Cond) (f : Flags) : Bool :=
  match c with
  | .o => f.of
  | .no => !f.of
  | .b => f.cf
  | .nb => !f.cf
  | .e => f.zf
  | .ne => !f.zf
  | .be => f.cf || f.zf
  | .nbe => !f.cf && !f.zf
  | .s => f.sf
  | .ns => !f.sf
  | .p => f.pf
  | .np => !f.pf
  | .l => f.sf != f.of
  | .nl => f.sf == f.of
  | .le => f.zf || f.sf != f.of
  | .nle => !f.zf && f.sf == f.of

/-! ## Flag images of the byte in AH (R459, R460) -/

/-- SAHF: SF, ZF, AF, PF, CF from AH; OF and every opaque bit keep their values (R459). -/
def Flags.loadAh (f : Flags) (ah : Byte) : Flags :=
  { f with
    sf := ah.getLsbD 7
    zf := ah.getLsbD 6
    af := ah.getLsbD 4
    pf := ah.getLsbD 2
    cf := ah.getLsbD 0 }

end Sys2Proof.Machine
end

