-- ==== Sys2Proof/Machine/Operands.lean ====
section
/-! DEFINITION. The modrm-addressing-resolver and operand access (40_operands_modrm.md): effective address, default segment
and override, the decoded operand, reading and writing it, far pointers. -/

namespace Sys2Proof.Machine

/-! ## Effective address and segment (R142 to R147) -/

/-- The register sum of a form (R143). -/
def baseSum (s : State) : Base → Word
  | .bxSi => s.reg16 .bx + s.reg16 .si
  | .bxDi => s.reg16 .bx + s.reg16 .di
  | .bpSi => s.reg16 .bp + s.reg16 .si
  | .bpDi => s.reg16 .bp + s.reg16 .di
  | .si => s.reg16 .si
  | .di => s.reg16 .di
  | .bp => s.reg16 .bp
  | .bx => s.reg16 .bx

/-- The displacement as a 16-bit addend: none, a signed byte, or a word (R112, R144). -/
def dispWord : Disp → Word
  | .none => 0
  | .d8 d => sext8 d
  | .d16 d => d

/-- EA: base + index + displacement modulo 0x10000, from the registers as they are before the instruction (R143, R144). -/
def effectiveAddress (s : State) : MemRef → Word
  | .direct d => d
  | .based b d => baseSum s b + dispWord d

/-- SS for the BP-based forms, DS for all others, the direct form included (R143, R145). -/
def defaultSegment : MemRef → SReg
  | .direct _ => .ds
  | .based b _ =>
    match b with
    | .bpSi | .bpDi | .bp => .ss
    | .bxSi | .bxDi | .si | .di | .bx => .ds

/-- The segment value a memory reference uses: an active override replaces the default, whichever it is (R146, R153). -/
def segmentFor (s : State) (default : SReg) : Word := s.sreg (s.ctx.override.getD default)

/-! ## The decoded operand (R140, R141, R148) -/

/-- A decoded operand: a register, or memory at a segment VALUE and an offset (R140). -/
inductive Operand (ρ : Type) where
  | register (r : ρ)
  | memory (seg off : Word)
  deriving DecidableEq, Repr

/-- The operand resolved once; every access of the instruction uses it (R140, R147). -/
def resolve {ρ : Type} (s : State) : Rm ρ → Operand ρ
  | .reg r => .register r
  | .mem m => .memory (segmentFor s (defaultSegment m)) (effectiveAddress s m)

/-- `ReadE(opnd, 8)` (R148). -/
def State.readE8 (s : State) : Operand Reg8 → Byte
  | .register r => s.reg8 r
  | .memory seg off => s.read8 seg off

/-- `WriteE(opnd, 8, v)` (R148). -/
def State.writeE8 (s : State) (o : Operand Reg8) (v : Byte) : State :=
  match o with
  | .register r => s.setReg8 r v
  | .memory seg off => s.write8 seg off v

/-- `ReadE(opnd, 16)` (R148). -/
def State.readE16 (s : State) : Operand Reg16 → Word
  | .register r => s.reg16 r
  | .memory seg off => s.read16 seg off

/-- `WriteE(opnd, 16, v)` (R148). -/
def State.writeE16 (s : State) (o : Operand Reg16) (v : Word) : State :=
  match o with
  | .register r => s.setReg16 r v
  | .memory seg off => s.write16 seg off v

/-! ## Far pointers (R152) -/

/-- The offset word of a far pointer in memory (R152). -/
def State.farOffset (s : State) (m : MemRef) : Word :=
  s.read16 (segmentFor s (defaultSegment m)) (effectiveAddress s m)

/-- The segment word of a far pointer in memory, at (EA + 2) modulo 0x10000 in both modes (R152). -/
def State.farSegment (s : State) (m : MemRef) : Word :=
  s.read16 (segmentFor s (defaultSegment m)) (effectiveAddress s m + 2)

end Sys2Proof.Machine
end

