-- ==== Sys2Proof/Machine/Alu.lean ====
section
/-! DEFINITION. The eight binary ALU operations in their ten forms, TEST, INC, DEC, NOT and NEG (41_alu_binary.md): the common
execution once, then one definition per instruction. -/

namespace Sys2Proof.Machine

/-! ## Common execution (R177) -/

/-- R177 for a byte destination: read it, combine it with `r`, write the flags, and write the result back unless the
operation is CMP. -/
def aluTo8 (op : AluOp) (dst : Operand Reg8) (r : Byte) (s : State) : State :=
  let out := alu op (s.readE8 dst) r s.flags
  if op = .cmp then s.setFlags out.2 else (s.setFlags out.2).writeE8 dst out.1

/-- R177 for a word destination. -/
def aluTo16 (op : AluOp) (dst : Operand Reg16) (r : Word) (s : State) : State :=
  let out := alu op (s.readE16 dst) r s.flags
  if op = .cmp then s.setFlags out.2 else (s.setFlags out.2).writeE16 dst out.1

/-- Form `Eb,Gb` (R175): the ModR/M operand is the destination. -/
def aluEbGb (op : AluOp) (e : Rm Reg8) (g : Reg8) (s : State) : Result := .next (aluTo8 op (resolve s e) (s.reg8 g) s)

/-- Form `Ev,Gv` (R175). -/
def aluEvGv (op : AluOp) (e : Rm Reg16) (g : Reg16) (s : State) : Result := .next (aluTo16 op (resolve s e) (s.reg16 g) s)

/-- Form `Gb,Eb` (R175): the register is the destination. -/
def aluGbEb (op : AluOp) (g : Reg8) (e : Rm Reg8) (s : State) : Result :=
  .next (aluTo8 op (.register g) (s.readE8 (resolve s e)) s)

/-- Form `Gv,Ev` (R175). -/
def aluGvEv (op : AluOp) (g : Reg16) (e : Rm Reg16) (s : State) : Result :=
  .next (aluTo16 op (.register g) (s.readE16 (resolve s e)) s)

/-- Form `AL,Ib` (R176). -/
def aluAlIb (op : AluOp) (imm : Byte) (s : State) : Result := .next (aluTo8 op (.register .al) imm s)

/-- Form `AX,Iv` (R176). -/
def aluAxIv (op : AluOp) (imm : Word) (s : State) : Result := .next (aluTo16 op (.register .ax) imm s)

/-- Group 1 `Eb,Ib` (R188). -/
def aluEbIb (op : AluOp) (e : Rm Reg8) (imm : Byte) (s : State) : Result := .next (aluTo8 op (resolve s e) imm s)

/-- Group 1 `Ev,Iv` (R188). -/
def aluEvIv (op : AluOp) (e : Rm Reg16) (imm : Word) (s : State) : Result := .next (aluTo16 op (resolve s e) imm s)

/-- Group 1 `Ev,Ibs` (R188, R189): the immediate byte is sign-extended first. -/
def aluEvIbs (op : AluOp) (e : Rm Reg16) (imm : Byte) (s : State) : Result := .next (aluTo16 op (resolve s e) (sext8 imm) s)

/-! ## TEST, INC, DEC, NOT, NEG (R190 to R197) -/

/-- TEST on bytes: the flags of AND, nothing else written (R190). -/
def testTo8 (l r : Byte) (s : State) : State := s.setFlags (logicWith (l &&& r) s.flags).2

/-- TEST on words (R190). -/
def testTo16 (l r : Word) (s : State) : State := s.setFlags (logicWith (l &&& r) s.flags).2

/-- INC of a byte operand (R192). -/
def incTo8 (dst : Operand Reg8) (s : State) : State :=
  let out := incWith (s.readE8 dst) s.flags
  (s.setFlags out.2).writeE8 dst out.1

/-- INC of a word operand (R192). -/
def incTo16 (dst : Operand Reg16) (s : State) : State :=
  let out := incWith (s.readE16 dst) s.flags
  (s.setFlags out.2).writeE16 dst out.1

/-- DEC of a byte operand (R193). -/
def decTo8 (dst : Operand Reg8) (s : State) : State :=
  let out := decWith (s.readE8 dst) s.flags
  (s.setFlags out.2).writeE8 dst out.1

/-- DEC of a word operand (R193). -/
def decTo16 (dst : Operand Reg16) (s : State) : State :=
  let out := decWith (s.readE16 dst) s.flags
  (s.setFlags out.2).writeE16 dst out.1

/-- NOT of a byte operand: no flag is written (R196). -/
def notTo8 (dst : Operand Reg8) (s : State) : State := s.writeE8 dst (~~~(s.readE8 dst))

/-- NOT of a word operand (R196). -/
def notTo16 (dst : Operand Reg16) (s : State) : State := s.writeE16 dst (~~~(s.readE16 dst))

/-- NEG of a byte operand: subtraction from 0 (R197). -/
def negTo8 (dst : Operand Reg8) (s : State) : State :=
  let out := subWith 0#8 (s.readE8 dst) false s.flags
  (s.setFlags out.2).writeE8 dst out.1

/-- NEG of a word operand (R197). -/
def negTo16 (dst : Operand Reg16) (s : State) : State :=
  let out := subWith 0#16 (s.readE16 dst) false s.flags
  (s.setFlags out.2).writeE16 dst out.1

/-! ## The instructions -/

/-- R180, `00 /r`: ADD Eb,Gb. -/
def execAddEbGb (e : Rm Reg8) (g : Reg8) (s : State) : Result := aluEbGb .add e g s

/-- R180, `01 /r`: ADD Ev,Gv. -/
def execAddEvGv (e : Rm Reg16) (g : Reg16) (s : State) : Result := aluEvGv .add e g s

/-- R180, `02 /r`: ADD Gb,Eb. -/
def execAddGbEb (g : Reg8) (e : Rm Reg8) (s : State) : Result := aluGbEb .add g e s

/-- R180, `03 /r`: ADD Gv,Ev. -/
def execAddGvEv (g : Reg16) (e : Rm Reg16) (s : State) : Result := aluGvEv .add g e s

/-- R180, `04 ib`: ADD AL,Ib. -/
def execAddAlIb (imm : Byte) (s : State) : Result := aluAlIb .add imm s

/-- R180, `05 iw`: ADD AX,Iv. -/
def execAddAxIv (imm : Word) (s : State) : Result := aluAxIv .add imm s

/-- R181, `08 /r`: OR Eb,Gb. -/
def execOrEbGb (e : Rm Reg8) (g : Reg8) (s : State) : Result := aluEbGb .or e g s

/-- R181, `09 /r`: OR Ev,Gv. -/
def execOrEvGv (e : Rm Reg16) (g : Reg16) (s : State) : Result := aluEvGv .or e g s

/-- R181, `0A /r`: OR Gb,Eb. -/
def execOrGbEb (g : Reg8) (e : Rm Reg8) (s : State) : Result := aluGbEb .or g e s

/-- R181, `0B /r`: OR Gv,Ev. -/
def execOrGvEv (g : Reg16) (e : Rm Reg16) (s : State) : Result := aluGvEv .or g e s

/-- R181, `0C ib`: OR AL,Ib. -/
def execOrAlIb (imm : Byte) (s : State) : Result := aluAlIb .or imm s

/-- R181, `0D iw`: OR AX,Iv. -/
def execOrAxIv (imm : Word) (s : State) : Result := aluAxIv .or imm s

/-- R182, `10 /r`: ADC Eb,Gb. -/
def execAdcEbGb (e : Rm Reg8) (g : Reg8) (s : State) : Result := aluEbGb .adc e g s

/-- R182, `11 /r`: ADC Ev,Gv. -/
def execAdcEvGv (e : Rm Reg16) (g : Reg16) (s : State) : Result := aluEvGv .adc e g s

/-- R182, `12 /r`: ADC Gb,Eb. -/
def execAdcGbEb (g : Reg8) (e : Rm Reg8) (s : State) : Result := aluGbEb .adc g e s

/-- R182, `13 /r`: ADC Gv,Ev. -/
def execAdcGvEv (g : Reg16) (e : Rm Reg16) (s : State) : Result := aluGvEv .adc g e s

/-- R182, `14 ib`: ADC AL,Ib. -/
def execAdcAlIb (imm : Byte) (s : State) : Result := aluAlIb .adc imm s

/-- R182, `15 iw`: ADC AX,Iv. -/
def execAdcAxIv (imm : Word) (s : State) : Result := aluAxIv .adc imm s

/-- R183, `18 /r`: SBB Eb,Gb. -/
def execSbbEbGb (e : Rm Reg8) (g : Reg8) (s : State) : Result := aluEbGb .sbb e g s

/-- R183, `19 /r`: SBB Ev,Gv. -/
def execSbbEvGv (e : Rm Reg16) (g : Reg16) (s : State) : Result := aluEvGv .sbb e g s

/-- R183, `1A /r`: SBB Gb,Eb. -/
def execSbbGbEb (g : Reg8) (e : Rm Reg8) (s : State) : Result := aluGbEb .sbb g e s

/-- R183, `1B /r`: SBB Gv,Ev. -/
def execSbbGvEv (g : Reg16) (e : Rm Reg16) (s : State) : Result := aluGvEv .sbb g e s

/-- R183, `1C ib`: SBB AL,Ib. -/
def execSbbAlIb (imm : Byte) (s : State) : Result := aluAlIb .sbb imm s

/-- R183, `1D iw`: SBB AX,Iv. -/
def execSbbAxIv (imm : Word) (s : State) : Result := aluAxIv .sbb imm s

/-- R184, `20 /r`: AND Eb,Gb. -/
def execAndEbGb (e : Rm Reg8) (g : Reg8) (s : State) : Result := aluEbGb .and e g s

/-- R184, `21 /r`: AND Ev,Gv. -/
def execAndEvGv (e : Rm Reg16) (g : Reg16) (s : State) : Result := aluEvGv .and e g s

/-- R184, `22 /r`: AND Gb,Eb. -/
def execAndGbEb (g : Reg8) (e : Rm Reg8) (s : State) : Result := aluGbEb .and g e s

/-- R184, `23 /r`: AND Gv,Ev. -/
def execAndGvEv (g : Reg16) (e : Rm Reg16) (s : State) : Result := aluGvEv .and g e s

/-- R184, `24 ib`: AND AL,Ib. -/
def execAndAlIb (imm : Byte) (s : State) : Result := aluAlIb .and imm s

/-- R184, `25 iw`: AND AX,Iv. -/
def execAndAxIv (imm : Word) (s : State) : Result := aluAxIv .and imm s

/-- R185, `28 /r`: SUB Eb,Gb. -/
def execSubEbGb (e : Rm Reg8) (g : Reg8) (s : State) : Result := aluEbGb .sub e g s

/-- R185, `29 /r`: SUB Ev,Gv. -/
def execSubEvGv (e : Rm Reg16) (g : Reg16) (s : State) : Result := aluEvGv .sub e g s

/-- R185, `2A /r`: SUB Gb,Eb. -/
def execSubGbEb (g : Reg8) (e : Rm Reg8) (s : State) : Result := aluGbEb .sub g e s

/-- R185, `2B /r`: SUB Gv,Ev. -/
def execSubGvEv (g : Reg16) (e : Rm Reg16) (s : State) : Result := aluGvEv .sub g e s

/-- R185, `2C ib`: SUB AL,Ib. -/
def execSubAlIb (imm : Byte) (s : State) : Result := aluAlIb .sub imm s

/-- R185, `2D iw`: SUB AX,Iv. -/
def execSubAxIv (imm : Word) (s : State) : Result := aluAxIv .sub imm s

/-- R186, `30 /r`: XOR Eb,Gb. -/
def execXorEbGb (e : Rm Reg8) (g : Reg8) (s : State) : Result := aluEbGb .xor e g s

/-- R186, `31 /r`: XOR Ev,Gv. -/
def execXorEvGv (e : Rm Reg16) (g : Reg16) (s : State) : Result := aluEvGv .xor e g s

/-- R186, `32 /r`: XOR Gb,Eb. -/
def execXorGbEb (g : Reg8) (e : Rm Reg8) (s : State) : Result := aluGbEb .xor g e s

/-- R186, `33 /r`: XOR Gv,Ev. -/
def execXorGvEv (g : Reg16) (e : Rm Reg16) (s : State) : Result := aluGvEv .xor g e s

/-- R186, `34 ib`: XOR AL,Ib. -/
def execXorAlIb (imm : Byte) (s : State) : Result := aluAlIb .xor imm s

/-- R186, `35 iw`: XOR AX,Iv. -/
def execXorAxIv (imm : Word) (s : State) : Result := aluAxIv .xor imm s

/-- R187, `38 /r`: CMP Eb,Gb. -/
def execCmpEbGb (e : Rm Reg8) (g : Reg8) (s : State) : Result := aluEbGb .cmp e g s

/-- R187, `39 /r`: CMP Ev,Gv. -/
def execCmpEvGv (e : Rm Reg16) (g : Reg16) (s : State) : Result := aluEvGv .cmp e g s

/-- R187, `3A /r`: CMP Gb,Eb. -/
def execCmpGbEb (g : Reg8) (e : Rm Reg8) (s : State) : Result := aluGbEb .cmp g e s

/-- R187, `3B /r`: CMP Gv,Ev. -/
def execCmpGvEv (g : Reg16) (e : Rm Reg16) (s : State) : Result := aluGvEv .cmp g e s

/-- R187, `3C ib`: CMP AL,Ib. -/
def execCmpAlIb (imm : Byte) (s : State) : Result := aluAlIb .cmp imm s

/-- R187, `3D iw`: CMP AX,Iv. -/
def execCmpAxIv (imm : Word) (s : State) : Result := aluAxIv .cmp imm s

/-- R180, R188, `80 /0 ib`: ADD Eb,Ib. -/
def execAddEbIb (e : Rm Reg8) (imm : Byte) (s : State) : Result := aluEbIb .add e imm s

/-- R180, R188, `81 /0 iw`: ADD Ev,Iv. -/
def execAddEvIv (e : Rm Reg16) (imm : Word) (s : State) : Result := aluEvIv .add e imm s

/-- R180, R188, `82 /0 ib`: ADD Eb,Ib. -/
def execAddEbIb82 (e : Rm Reg8) (imm : Byte) (s : State) : Result := aluEbIb .add e imm s

/-- R180, R188, `83 /0 ib`: ADD Ev,Ibs. -/
def execAddEvIbs (e : Rm Reg16) (imm : Byte) (s : State) : Result := aluEvIbs .add e imm s

/-- R181, R188, `80 /1 ib`: OR Eb,Ib. -/
def execOrEbIb (e : Rm Reg8) (imm : Byte) (s : State) : Result := aluEbIb .or e imm s

/-- R181, R188, `81 /1 iw`: OR Ev,Iv. -/
def execOrEvIv (e : Rm Reg16) (imm : Word) (s : State) : Result := aluEvIv .or e imm s

/-- R181, R188, `82 /1 ib`: OR Eb,Ib. -/
def execOrEbIb82 (e : Rm Reg8) (imm : Byte) (s : State) : Result := aluEbIb .or e imm s

/-- R181, R188, `83 /1 ib`: OR Ev,Ibs. -/
def execOrEvIbs (e : Rm Reg16) (imm : Byte) (s : State) : Result := aluEvIbs .or e imm s

/-- R182, R188, `80 /2 ib`: ADC Eb,Ib. -/
def execAdcEbIb (e : Rm Reg8) (imm : Byte) (s : State) : Result := aluEbIb .adc e imm s

/-- R182, R188, `81 /2 iw`: ADC Ev,Iv. -/
def execAdcEvIv (e : Rm Reg16) (imm : Word) (s : State) : Result := aluEvIv .adc e imm s

/-- R182, R188, `82 /2 ib`: ADC Eb,Ib. -/
def execAdcEbIb82 (e : Rm Reg8) (imm : Byte) (s : State) : Result := aluEbIb .adc e imm s

/-- R182, R188, `83 /2 ib`: ADC Ev,Ibs. -/
def execAdcEvIbs (e : Rm Reg16) (imm : Byte) (s : State) : Result := aluEvIbs .adc e imm s

/-- R183, R188, `80 /3 ib`: SBB Eb,Ib. -/
def execSbbEbIb (e : Rm Reg8) (imm : Byte) (s : State) : Result := aluEbIb .sbb e imm s

/-- R183, R188, `81 /3 iw`: SBB Ev,Iv. -/
def execSbbEvIv (e : Rm Reg16) (imm : Word) (s : State) : Result := aluEvIv .sbb e imm s

/-- R183, R188, `82 /3 ib`: SBB Eb,Ib. -/
def execSbbEbIb82 (e : Rm Reg8) (imm : Byte) (s : State) : Result := aluEbIb .sbb e imm s

/-- R183, R188, `83 /3 ib`: SBB Ev,Ibs. -/
def execSbbEvIbs (e : Rm Reg16) (imm : Byte) (s : State) : Result := aluEvIbs .sbb e imm s

/-- R184, R188, `80 /4 ib`: AND Eb,Ib. -/
def execAndEbIb (e : Rm Reg8) (imm : Byte) (s : State) : Result := aluEbIb .and e imm s

/-- R184, R188, `81 /4 iw`: AND Ev,Iv. -/
def execAndEvIv (e : Rm Reg16) (imm : Word) (s : State) : Result := aluEvIv .and e imm s

/-- R184, R188, `82 /4 ib`: AND Eb,Ib. -/
def execAndEbIb82 (e : Rm Reg8) (imm : Byte) (s : State) : Result := aluEbIb .and e imm s

/-- R184, R188, `83 /4 ib`: AND Ev,Ibs. -/
def execAndEvIbs (e : Rm Reg16) (imm : Byte) (s : State) : Result := aluEvIbs .and e imm s

/-- R185, R188, `80 /5 ib`: SUB Eb,Ib. -/
def execSubEbIb (e : Rm Reg8) (imm : Byte) (s : State) : Result := aluEbIb .sub e imm s

/-- R185, R188, `81 /5 iw`: SUB Ev,Iv. -/
def execSubEvIv (e : Rm Reg16) (imm : Word) (s : State) : Result := aluEvIv .sub e imm s

/-- R185, R188, `82 /5 ib`: SUB Eb,Ib. -/
def execSubEbIb82 (e : Rm Reg8) (imm : Byte) (s : State) : Result := aluEbIb .sub e imm s

/-- R185, R188, `83 /5 ib`: SUB Ev,Ibs. -/
def execSubEvIbs (e : Rm Reg16) (imm : Byte) (s : State) : Result := aluEvIbs .sub e imm s

/-- R186, R188, `80 /6 ib`: XOR Eb,Ib. -/
def execXorEbIb (e : Rm Reg8) (imm : Byte) (s : State) : Result := aluEbIb .xor e imm s

/-- R186, R188, `81 /6 iw`: XOR Ev,Iv. -/
def execXorEvIv (e : Rm Reg16) (imm : Word) (s : State) : Result := aluEvIv .xor e imm s

/-- R186, R188, `82 /6 ib`: XOR Eb,Ib. -/
def execXorEbIb82 (e : Rm Reg8) (imm : Byte) (s : State) : Result := aluEbIb .xor e imm s

/-- R186, R188, `83 /6 ib`: XOR Ev,Ibs. -/
def execXorEvIbs (e : Rm Reg16) (imm : Byte) (s : State) : Result := aluEvIbs .xor e imm s

/-- R187, R188, `80 /7 ib`: CMP Eb,Ib. -/
def execCmpEbIb (e : Rm Reg8) (imm : Byte) (s : State) : Result := aluEbIb .cmp e imm s

/-- R187, R188, `81 /7 iw`: CMP Ev,Iv. -/
def execCmpEvIv (e : Rm Reg16) (imm : Word) (s : State) : Result := aluEvIv .cmp e imm s

/-- R187, R188, `82 /7 ib`: CMP Eb,Ib. -/
def execCmpEbIb82 (e : Rm Reg8) (imm : Byte) (s : State) : Result := aluEbIb .cmp e imm s

/-- R187, R188, `83 /7 ib`: CMP Ev,Ibs. -/
def execCmpEvIbs (e : Rm Reg16) (imm : Byte) (s : State) : Result := aluEvIbs .cmp e imm s

/-- R190, `84 /r`: TEST Eb,Gb. -/
def execTestEbGb (e : Rm Reg8) (g : Reg8) (s : State) : Result := s.tier2 0x84 (testTo8 (s.readE8 (resolve s e)) (s.reg8 g) s)

/-- R190, `85 /r`: TEST Ev,Gv. -/
def execTestEvGv (e : Rm Reg16) (g : Reg16) (s : State) : Result := s.tier2 0x85 (testTo16 (s.readE16 (resolve s e)) (s.reg16 g) s)

/-- R190, `A8 ib`: TEST AL,Ib. -/
def execTestAlIb (imm : Byte) (s : State) : Result := s.tier2 0xA8 (testTo8 (s.reg8 .al) imm s)

/-- R190, `A9 iw`: TEST AX,Iv. -/
def execTestAxIv (imm : Word) (s : State) : Result := s.tier2 0xA9 (testTo16 (s.reg16 .ax) imm s)

/-- R190, `F6 /0 ib`: TEST Eb,Ib. -/
def execTestEbIb (e : Rm Reg8) (imm : Byte) (s : State) : Result := s.tier2 0xF6 (testTo8 (s.readE8 (resolve s e)) imm s)

/-- R190, `F7 /0 iw`: TEST Ev,Iv. -/
def execTestEvIv (e : Rm Reg16) (imm : Word) (s : State) : Result := s.tier2 0xF7 (testTo16 (s.readE16 (resolve s e)) imm s)

/-- R192, `40+r`: INC r16. -/
def execIncR16 (r : Reg16) (s : State) : Result := s.tier2 (regOpcode 0x40 r) (incTo16 (.register r) s)

/-- R192, `FE /0`: INC Eb. -/
def execIncEb (e : Rm Reg8) (s : State) : Result := s.tier2 0xFE (incTo8 (resolve s e) s)

/-- R192, `FF /0`: INC Ev. -/
def execIncEv (e : Rm Reg16) (s : State) : Result := s.tier2 0xFF (incTo16 (resolve s e) s)

/-- R193, `48+r`: DEC r16. -/
def execDecR16 (r : Reg16) (s : State) : Result := s.tier2 (regOpcode 0x48 r) (decTo16 (.register r) s)

/-- R193, `FE /1`: DEC Eb. -/
def execDecEb (e : Rm Reg8) (s : State) : Result := s.tier2 0xFE (decTo8 (resolve s e) s)

/-- R193, `FF /1`: DEC Ev. -/
def execDecEv (e : Rm Reg16) (s : State) : Result := s.tier2 0xFF (decTo16 (resolve s e) s)

/-- R196, `F6 /2`: NOT Eb. -/
def execNotEb (e : Rm Reg8) (s : State) : Result := s.tier2 0xF6 (notTo8 (resolve s e) s)

/-- R196, `F7 /2`: NOT Ev. -/
def execNotEv (e : Rm Reg16) (s : State) : Result := s.tier2 0xF7 (notTo16 (resolve s e) s)

/-- R197, `F6 /3`: NEG Eb. -/
def execNegEb (e : Rm Reg8) (s : State) : Result := s.tier2 0xF6 (negTo8 (resolve s e) s)

/-- R197, `F7 /3`: NEG Ev. -/
def execNegEv (e : Rm Reg16) (s : State) : Result := s.tier2 0xF7 (negTo16 (resolve s e) s)

end Sys2Proof.Machine
end

