-- ==== Sys2Proof/Machine/Bcd.lean ====
section
/-! DEFINITION. DAA, DAS, AAA, AAS, AAM and AAD (42_bcd_adjust.md). -/

namespace Sys2Proof.Machine

/-- DAA and DAS: AL and the flags from the old AL and the old flags; AH is not touched (R222, R223). -/
def bcdAdjust (adjust : Byte → Flags → Byte × Flags) (s : State) : State :=
  let out := adjust (s.reg8 .al) s.flags
  (s.setReg8 .al out.1).setFlags out.2

/-- AAA and AAS: AX and the flags, with SF, ZF, PF as three draws in this order (R224, R225). -/
def asciiAdjust (adjust : Word → Flags → Word) (s : State) : State :=
  ((s.setReg16 .ax (adjust (s.reg16 .ax) s.flags)).setFlags
    (asciiFlags (s.reg8 .al) s.flags (s.draw 0) (s.draw 1) (s.draw 2))).tookDraws 3

/-- The flags of AAM and AAD: SZP from the final AL, then CF, OF, AF as three draws in this order (R230, R231). -/
def asciiMulFlags (al : Byte) (s : State) : Flags :=
  { s.flags.setSzp al with cf := s.draw 0, of := s.draw 1, af := s.draw 2 }

/-- AAM by a divisor that is not 0: AH and AL are the quotient and remainder of the old AL (R230). -/
def asciiAfterMultiply (b : Byte) (s : State) : State :=
  let al := s.reg8 .al
  ((s.setReg16 .ax (wordOf (al / b) (al % b))).setFlags (asciiMulFlags (al % b) s)).tookDraws 3

/-- AAD: AL becomes AL + AH times the multiplier modulo 256, AH becomes 0 (R231). -/
def asciiBeforeDivide (b : Byte) (s : State) : State :=
  let al := s.reg8 .al + s.reg8 .ah * b
  ((s.setReg16 .ax (wordOf 0 al)).setFlags (asciiMulFlags al s)).tookDraws 3

/-! ## The instructions -/

/-- R222, `27`: DAA. -/
def execDaa (s : State) : Result := .next (bcdAdjust daaWith s)

/-- R223, `2F`: DAS. -/
def execDas (s : State) : Result := .next (bcdAdjust dasWith s)

/-- R224, `37`: AAA. -/
def execAaa (s : State) : Result := .next (asciiAdjust aaaAx s)

/-- R225, `3F`: AAS. -/
def execAas (s : State) : Result := .next (asciiAdjust aasAx s)

/-- R230, `D4 ib`: AAM; a zero immediate raises DivideFault. -/
def execAam (imm : Byte) (s : State) : Result := s.tier2 0xD4 (if imm = 0#8 then s.divideFault else asciiAfterMultiply imm s)

/-- R231, `D5 ib`: AAD. -/
def execAad (imm : Byte) (s : State) : Result := s.tier2 0xD5 (asciiBeforeDivide imm s)

end Sys2Proof.Machine
end

