-- ==== Sys2Proof/Machine/Control.lean ====
section
/-! DEFINITION. Jcc, JMP, CALL, RET, the LOOP family and JCXZ (48_control_transfer.md). None writes a flag. IP on entry is the offset of
the following instruction (R401, R410). -/

namespace Sys2Proof.Machine

/-- A short jump that is taken when `taken` holds; the displacement is consumed either way (R401, R402, R422). -/
def jumpIf (taken : Bool) (d : Byte) (s : State) : State := if taken then s.setIp (s.ip + sext8 d) else s

/-- The LOOP family: CX is decremented, no flag is touched, and the jump is taken when CX is not 0 and `also` holds
(R425 to R427). -/
def loopIf (also : Bool) (d : Byte) (s : State) : State :=
  let s1 := s.setReg16 .cx (s.reg16 .cx - 1)
  jumpIf (s1.reg16 .cx != 0#16 && also) d s1

/-- CS:IP loaded with a far target (R400). -/
def goFar (off seg : Word) (s : State) : State := (s.setSreg .cs seg).setIp off

/-- A far call: CS pushed first, IP second, then the transfer (R410, R413, R414). -/
def callFarTo (off seg : Word) (s : State) : State := goFar off seg ((s.push16 (s.sreg .cs)).push16 s.ip)

/-- A far return: IP popped first, then CS; both pops use SS (R417). -/
def returnFar (s : State) : State := goFar s.top16 s.dropTop.top16 s.dropTop.dropTop

/-- SP plus an unsigned immediate, after the pops (R416, R418). -/
def releaseStack (n : Word) (s : State) : State := s.setReg16 .sp (s.reg16 .sp + n)

/-! ## The instructions -/

/-- R402, `70 ib`: JO. -/
def execJo (d : Byte) (s : State) : Result := .next (jumpIf (Cond.holds .o s.flags) d s)

/-- R402, `71 ib`: JNO. -/
def execJno (d : Byte) (s : State) : Result := .next (jumpIf (Cond.holds .no s.flags) d s)

/-- R402, `72 ib`: JB. -/
def execJb (d : Byte) (s : State) : Result := .next (jumpIf (Cond.holds .b s.flags) d s)

/-- R402, `73 ib`: JNB. -/
def execJnb (d : Byte) (s : State) : Result := .next (jumpIf (Cond.holds .nb s.flags) d s)

/-- R402, `74 ib`: JE. -/
def execJe (d : Byte) (s : State) : Result := .next (jumpIf (Cond.holds .e s.flags) d s)

/-- R402, `75 ib`: JNE. -/
def execJne (d : Byte) (s : State) : Result := .next (jumpIf (Cond.holds .ne s.flags) d s)

/-- R402, `76 ib`: JBE. -/
def execJbe (d : Byte) (s : State) : Result := .next (jumpIf (Cond.holds .be s.flags) d s)

/-- R402, `77 ib`: JNBE. -/
def execJnbe (d : Byte) (s : State) : Result := .next (jumpIf (Cond.holds .nbe s.flags) d s)

/-- R402, `78 ib`: JS. -/
def execJs (d : Byte) (s : State) : Result := .next (jumpIf (Cond.holds .s s.flags) d s)

/-- R402, `79 ib`: JNS. -/
def execJns (d : Byte) (s : State) : Result := .next (jumpIf (Cond.holds .ns s.flags) d s)

/-- R402, `7A ib`: JP. -/
def execJp (d : Byte) (s : State) : Result := .next (jumpIf (Cond.holds .p s.flags) d s)

/-- R402, `7B ib`: JNP. -/
def execJnp (d : Byte) (s : State) : Result := .next (jumpIf (Cond.holds .np s.flags) d s)

/-- R402, `7C ib`: JL. -/
def execJl (d : Byte) (s : State) : Result := .next (jumpIf (Cond.holds .l s.flags) d s)

/-- R402, `7D ib`: JNL. -/
def execJnl (d : Byte) (s : State) : Result := .next (jumpIf (Cond.holds .nl s.flags) d s)

/-- R402, `7E ib`: JLE. -/
def execJle (d : Byte) (s : State) : Result := .next (jumpIf (Cond.holds .le s.flags) d s)

/-- R402, `7F ib`: JNLE. -/
def execJnle (d : Byte) (s : State) : Result := .next (jumpIf (Cond.holds .nle s.flags) d s)

/-- R404, `EB ib`: JMP short. -/
def execJmpShort (d : Byte) (s : State) : Result := .next (s.setIp (s.ip + sext8 d))

/-- R405, `E9 iw`: JMP near. -/
def execJmpNear (d : Word) (s : State) : Result := .next (s.setIp (s.ip + d))

/-- R406, `FF /4`: JMP near indirect. -/
def execJmpEv (e : Rm Reg16) (s : State) : Result := .next (s.setIp (s.readE16 (resolve s e)))

/-- R408, `EA iw iw`: JMP far; offset first, then segment. -/
def execJmpFar (off : Word) (seg : Word) (s : State) : Result := .next (goFar off seg s)

/-- R409, `FF /5`: JMP far indirect. -/
def execJmpMp (m : MemRef) (s : State) : Result := .next (goFar (s.farOffset m) (s.farSegment m) s)

/-- R411, `E8 iw`: CALL near. -/
def execCallNear (d : Word) (s : State) : Result := .next ((s.push16 s.ip).setIp (s.ip + d))

/-- R412, `FF /2`: CALL near indirect; the target is read before the push. -/
def execCallEv (e : Rm Reg16) (s : State) : Result := .next ((s.push16 s.ip).setIp (s.readE16 (resolve s e)))

/-- R413, `9A iw iw`: CALL far. -/
def execCallFar (off : Word) (seg : Word) (s : State) : Result := .next (callFarTo off seg s)

/-- R414, `FF /3`: CALL far indirect; both words are read before either push. -/
def execCallMp (m : MemRef) (s : State) : Result := .next (callFarTo (s.farOffset m) (s.farSegment m) s)

/-- R416, `C2 iw`: RET near, n added to SP after the pop. -/
def execRetNearIw (n : Word) (s : State) : Result := .next (releaseStack n (s.dropTop.setIp s.top16))

/-- R415, `C3`: RET near. -/
def execRetNear (s : State) : Result := .next (s.dropTop.setIp s.top16)

/-- R418, `CA iw`: RET far, n added to SP after both pops. -/
def execRetFarIw (n : Word) (s : State) : Result := .next (releaseStack n (returnFar s))

/-- R417, `CB`: RET far. -/
def execRetFar (s : State) : Result := .next (returnFar s)

/-- R425, `E0 ib`: LOOPNE. -/
def execLoopne (d : Byte) (s : State) : Result := .next (loopIf (!s.flags.zf) d s)

/-- R426, `E1 ib`: LOOPE. -/
def execLoope (d : Byte) (s : State) : Result := .next (loopIf s.flags.zf d s)

/-- R427, `E2 ib`: LOOP. -/
def execLoop (d : Byte) (s : State) : Result := .next (loopIf true d s)

/-- R428, `E3 ib`: JCXZ; CX is not changed. -/
def execJcxz (d : Byte) (s : State) : Result := .next (jumpIf (s.reg16 .cx == 0#16) d s)

end Sys2Proof.Machine
end

