-- ==== Sys2Proof/Machine/MulDiv.lean ====
section
/-! DEFINITION. MUL, IMUL, DIV and IDIV in two widths (44_mul_div.md); a division that raises DivideFault enters vector 0 with AX, DX and
the flags as they were. -/

namespace Sys2Proof.Machine

/-- MUL and IMUL's flags: CF = OF = `high`, then SF, ZF, PF, AF as four draws in this order (R271 to R274). -/
def withMulFlags (high : Bool) (s : State) : State :=
  (s.setFlags (mulFlags s.flags high (s.draw 0) (s.draw 1) (s.draw 2) (s.draw 3))).tookDraws 4

/-- DIV and IDIV's flags: CF, PF, AF, ZF, SF, OF as six draws in this order (R275 to R278). -/
def withDivFlags (s : State) : State :=
  (s.setFlags (divFlags s.flags (s.draw 0) (s.draw 1) (s.draw 2) (s.draw 3) (s.draw 4) (s.draw 5))).tookDraws 6

/-- MUL Eb: AX = AL times the operand, unsigned (R271). -/
def mulBy8 (x : Byte) (s : State) : State :=
  let p := (s.reg8 .al).toNat * x.toNat
  withMulFlags (decide (p / 256 ≠ 0)) (s.setReg16 .ax (BitVec.ofNat 16 p))

/-- MUL Ev: DX:AX = AX times the operand, unsigned (R272). -/
def mulBy16 (x : Word) (s : State) : State :=
  let p := (s.reg16 .ax).toNat * x.toNat
  withMulFlags (decide (p / 65536 ≠ 0)) ((s.setReg16 .ax (BitVec.ofNat 16 p)).setReg16 .dx (BitVec.ofNat 16 (p / 65536)))

/-- IMUL Eb: AX = AL times the operand, signed; CF unless AX is the sign extension of its low byte (R273). -/
def imulBy8 (x : Byte) (s : State) : State :=
  let p := BitVec.ofInt 16 ((s.reg8 .al).toInt * x.toInt)
  withMulFlags (p != sext8 (loByte p)) (s.setReg16 .ax p)

/-- IMUL Ev: DX:AX = AX times the operand, signed; CF when the product is outside -32768 to 32767 (R274). -/
def imulBy16 (x : Word) (s : State) : State :=
  let p := (s.reg16 .ax).toInt * x.toInt
  withMulFlags (decide (p < -32768 ∨ 32767 < p))
    ((s.setReg16 .ax ((BitVec.ofInt 32 p).extractLsb' 0 16)).setReg16 .dx ((BitVec.ofInt 32 p).extractLsb' 16 16))

/-- A byte division's result: AL the quotient, AH the remainder, or DivideFault (R275, R277, R279). -/
def divideInto8 (r : Option (Byte × Byte)) (s : State) : State :=
  match r with
  | none => s.divideFault
  | some (q, rem) => withDivFlags (s.setReg16 .ax (wordOf rem q))

/-- A word division's result: AX the quotient, DX the remainder, or DivideFault (R276, R278, R279). -/
def divideInto16 (r : Option (Word × Word)) (s : State) : State :=
  match r with
  | none => s.divideFault
  | some (q, rem) => withDivFlags ((s.setReg16 .ax q).setReg16 .dx rem)

/-- The 32-bit dividend DX:AX (R270, R276). -/
def dividend32 (s : State) : BitVec 32 := s.reg16 .dx ++ s.reg16 .ax

/-- DIV Eb (R275). -/
def divBy8 (x : Byte) (s : State) : State := divideInto8 (udivide 8 (s.reg16 .ax).toNat x.toNat) s

/-- DIV Ev (R276). -/
def divBy16 (x : Word) (s : State) : State := divideInto16 (udivide 16 (dividend32 s).toNat x.toNat) s

/-- IDIV Eb (R277). -/
def idivBy8 (x : Byte) (s : State) : State := divideInto8 (sdivide 8 (s.reg16 .ax).toInt x.toInt) s

/-- IDIV Ev (R278). -/
def idivBy16 (x : Word) (s : State) : State := divideInto16 (sdivide 16 (dividend32 s).toInt x.toInt) s

/-! ## The instructions -/

/-- R271, `F6 /4`: MUL Eb. -/
def execMulEb (e : Rm Reg8) (s : State) : Result := .next (mulBy8 (s.readE8 (resolve s e)) s)

/-- R272, `F7 /4`: MUL Ev. -/
def execMulEv (e : Rm Reg16) (s : State) : Result := .next (mulBy16 (s.readE16 (resolve s e)) s)

/-- R273, `F6 /5`: IMUL Eb. -/
def execImulEb (e : Rm Reg8) (s : State) : Result := .next (imulBy8 (s.readE8 (resolve s e)) s)

/-- R274, `F7 /5`: IMUL Ev. -/
def execImulEv (e : Rm Reg16) (s : State) : Result := .next (imulBy16 (s.readE16 (resolve s e)) s)

/-- R275, `F6 /6`: DIV Eb. -/
def execDivEb (e : Rm Reg8) (s : State) : Result := .next (divBy8 (s.readE8 (resolve s e)) s)

/-- R276, `F7 /6`: DIV Ev. -/
def execDivEv (e : Rm Reg16) (s : State) : Result := .next (divBy16 (s.readE16 (resolve s e)) s)

/-- R277, `F6 /7`: IDIV Eb. -/
def execIdivEb (e : Rm Reg8) (s : State) : Result := .next (idivBy8 (s.readE8 (resolve s e)) s)

/-- R278, `F7 /7`: IDIV Ev. -/
def execIdivEv (e : Rm Reg16) (s : State) : Result := .next (idivBy16 (s.readE16 (resolve s e)) s)

end Sys2Proof.Machine
end

