-- ==== Sys2Proof/Machine/Shift.lean ====
section
/-! DEFINITION. The seven shifts and rotates in their four forms (43_shift_rotate.md). -/

namespace Sys2Proof.Machine

/-- A byte operand shifted or rotated by the effective count `n`: count 0 writes nothing at all (R244); otherwise the bit step `n`
times, the operand written once, and the flags of R245. -/
def shiftTo8 (op : ShiftOp) (n : Nat) (dst : Operand Reg8) (s : State) : State :=
  if n = 0 then s
  else
    let out := shiftSteps op n (s.readE8 dst) s.flags.cf
    ((s.setFlags (shiftFlags op n out.1 out.2 s.flags (s.draw 0) (s.draw 1))).tookDraws (shiftDraws op n)).writeE8 dst out.1

/-- A word operand shifted or rotated by the effective count `n` (R244, R245). -/
def shiftTo16 (op : ShiftOp) (n : Nat) (dst : Operand Reg16) (s : State) : State :=
  if n = 0 then s
  else
    let out := shiftSteps op n (s.readE16 dst) s.flags.cf
    ((s.setFlags (shiftFlags op n out.1 out.2 s.flags (s.draw 0) (s.draw 1))).tookDraws (shiftDraws op n)).writeE16 dst out.1

/-! ## The instructions -/

/-- R246, `D0 /0`: ROL Eb,1. -/
def execRolEb1 (e : Rm Reg8) (s : State) : Result := .next (shiftTo8 .rol 1 (resolve s e) s)

/-- R246, `D1 /0`: ROL Ev,1. -/
def execRolEv1 (e : Rm Reg16) (s : State) : Result := .next (shiftTo16 .rol 1 (resolve s e) s)

/-- R246, R243, `D2 /0`: ROL Eb,CL. -/
def execRolEbCl (e : Rm Reg8) (s : State) : Result := .next (shiftTo8 .rol (countOfCl s.cfg.arch 8 (s.reg8 .cl)) (resolve s e) s)

/-- R246, R243, `D3 /0`: ROL Ev,CL. -/
def execRolEvCl (e : Rm Reg16) (s : State) : Result := .next (shiftTo16 .rol (countOfCl s.cfg.arch 16 (s.reg8 .cl)) (resolve s e) s)

/-- R247, `D0 /1`: ROR Eb,1. -/
def execRorEb1 (e : Rm Reg8) (s : State) : Result := .next (shiftTo8 .ror 1 (resolve s e) s)

/-- R247, `D1 /1`: ROR Ev,1. -/
def execRorEv1 (e : Rm Reg16) (s : State) : Result := .next (shiftTo16 .ror 1 (resolve s e) s)

/-- R247, R243, `D2 /1`: ROR Eb,CL. -/
def execRorEbCl (e : Rm Reg8) (s : State) : Result := .next (shiftTo8 .ror (countOfCl s.cfg.arch 8 (s.reg8 .cl)) (resolve s e) s)

/-- R247, R243, `D3 /1`: ROR Ev,CL. -/
def execRorEvCl (e : Rm Reg16) (s : State) : Result := .next (shiftTo16 .ror (countOfCl s.cfg.arch 16 (s.reg8 .cl)) (resolve s e) s)

/-- R248, `D0 /2`: RCL Eb,1. -/
def execRclEb1 (e : Rm Reg8) (s : State) : Result := .next (shiftTo8 .rcl 1 (resolve s e) s)

/-- R248, `D1 /2`: RCL Ev,1. -/
def execRclEv1 (e : Rm Reg16) (s : State) : Result := .next (shiftTo16 .rcl 1 (resolve s e) s)

/-- R248, R243, `D2 /2`: RCL Eb,CL. -/
def execRclEbCl (e : Rm Reg8) (s : State) : Result := .next (shiftTo8 .rcl (countOfCl s.cfg.arch 8 (s.reg8 .cl)) (resolve s e) s)

/-- R248, R243, `D3 /2`: RCL Ev,CL. -/
def execRclEvCl (e : Rm Reg16) (s : State) : Result := .next (shiftTo16 .rcl (countOfCl s.cfg.arch 16 (s.reg8 .cl)) (resolve s e) s)

/-- R249, `D0 /3`: RCR Eb,1. -/
def execRcrEb1 (e : Rm Reg8) (s : State) : Result := .next (shiftTo8 .rcr 1 (resolve s e) s)

/-- R249, `D1 /3`: RCR Ev,1. -/
def execRcrEv1 (e : Rm Reg16) (s : State) : Result := .next (shiftTo16 .rcr 1 (resolve s e) s)

/-- R249, R243, `D2 /3`: RCR Eb,CL. -/
def execRcrEbCl (e : Rm Reg8) (s : State) : Result := .next (shiftTo8 .rcr (countOfCl s.cfg.arch 8 (s.reg8 .cl)) (resolve s e) s)

/-- R249, R243, `D3 /3`: RCR Ev,CL. -/
def execRcrEvCl (e : Rm Reg16) (s : State) : Result := .next (shiftTo16 .rcr (countOfCl s.cfg.arch 16 (s.reg8 .cl)) (resolve s e) s)

/-- R250, `D0 /4`: SHL Eb,1. -/
def execShlEb1 (e : Rm Reg8) (s : State) : Result := .next (shiftTo8 .shl 1 (resolve s e) s)

/-- R250, `D1 /4`: SHL Ev,1. -/
def execShlEv1 (e : Rm Reg16) (s : State) : Result := .next (shiftTo16 .shl 1 (resolve s e) s)

/-- R250, R243, `D2 /4`: SHL Eb,CL. -/
def execShlEbCl (e : Rm Reg8) (s : State) : Result := .next (shiftTo8 .shl (countOfCl s.cfg.arch 8 (s.reg8 .cl)) (resolve s e) s)

/-- R250, R243, `D3 /4`: SHL Ev,CL. -/
def execShlEvCl (e : Rm Reg16) (s : State) : Result := .next (shiftTo16 .shl (countOfCl s.cfg.arch 16 (s.reg8 .cl)) (resolve s e) s)

/-- R251, `D0 /5`: SHR Eb,1. -/
def execShrEb1 (e : Rm Reg8) (s : State) : Result := .next (shiftTo8 .shr 1 (resolve s e) s)

/-- R251, `D1 /5`: SHR Ev,1. -/
def execShrEv1 (e : Rm Reg16) (s : State) : Result := .next (shiftTo16 .shr 1 (resolve s e) s)

/-- R251, R243, `D2 /5`: SHR Eb,CL. -/
def execShrEbCl (e : Rm Reg8) (s : State) : Result := .next (shiftTo8 .shr (countOfCl s.cfg.arch 8 (s.reg8 .cl)) (resolve s e) s)

/-- R251, R243, `D3 /5`: SHR Ev,CL. -/
def execShrEvCl (e : Rm Reg16) (s : State) : Result := .next (shiftTo16 .shr (countOfCl s.cfg.arch 16 (s.reg8 .cl)) (resolve s e) s)

/-- R252, `D0 /7`: SAR Eb,1. -/
def execSarEb1 (e : Rm Reg8) (s : State) : Result := .next (shiftTo8 .sar 1 (resolve s e) s)

/-- R252, `D1 /7`: SAR Ev,1. -/
def execSarEv1 (e : Rm Reg16) (s : State) : Result := .next (shiftTo16 .sar 1 (resolve s e) s)

/-- R252, R243, `D2 /7`: SAR Eb,CL. -/
def execSarEbCl (e : Rm Reg8) (s : State) : Result := .next (shiftTo8 .sar (countOfCl s.cfg.arch 8 (s.reg8 .cl)) (resolve s e) s)

/-- R252, R243, `D3 /7`: SAR Ev,CL. -/
def execSarEvCl (e : Rm Reg16) (s : State) : Result := .next (shiftTo16 .sar (countOfCl s.cfg.arch 16 (s.reg8 .cl)) (resolve s e) s)

end Sys2Proof.Machine
end

