-- ==== Sys2Proof/Machine/Stack.lean ====
section
/-! DEFINITION. PUSH, POP, PUSHF and POPF (46_stack.md). -/

namespace Sys2Proof.Machine

/-- PUSH SP: the stored word is the new SP in 8086 mode and the old SP in 80186 mode (R343). -/
def pushSp (s : State) : State :=
  match s.cfg.arch with
  | .a8086 => s.push16 (s.reg16 .sp - 2)
  | .a80186 => s.push16 (s.reg16 .sp)

/-- PUSH Ev: the operand is read before SP moves; the register form of SP follows PUSH SP (R350). -/
def pushOperand (e : Rm Reg16) (s : State) : State :=
  match e with
  | .reg .sp => pushSp s
  | .reg r => s.push16 (s.reg16 r)
  | .mem m => s.push16 (s.readE16 (resolve s (.mem m)))

/-! ## The instructions -/

/-- R342, `50`: PUSH AX. -/
def execPushAx (s : State) : Result := .next (s.push16 (s.reg16 .ax))

/-- R342, `51`: PUSH CX. -/
def execPushCx (s : State) : Result := .next (s.push16 (s.reg16 .cx))

/-- R342, `52`: PUSH DX. -/
def execPushDx (s : State) : Result := .next (s.push16 (s.reg16 .dx))

/-- R342, `53`: PUSH BX. -/
def execPushBx (s : State) : Result := .next (s.push16 (s.reg16 .bx))

/-- R343, `54`: PUSH SP; the stored value depends on ARCH. -/
def execPushSp (s : State) : Result := .next (pushSp s)

/-- R342, `55`: PUSH BP. -/
def execPushBp (s : State) : Result := .next (s.push16 (s.reg16 .bp))

/-- R342, `56`: PUSH SI. -/
def execPushSi (s : State) : Result := .next (s.push16 (s.reg16 .si))

/-- R342, `57`: PUSH DI. -/
def execPushDi (s : State) : Result := .next (s.push16 (s.reg16 .di))

/-- R344, `58+r`: POP r16; for POP SP the register write comes after the increment. -/
def execPopR16 (r : Reg16) (s : State) : Result := .next (s.dropTop.setReg16 r s.top16)

/-- R350, `FF /6`: PUSH Ev. -/
def execPushEv (e : Rm Reg16) (s : State) : Result := s.tier2 0xFF (pushOperand e s)

/-- R351, `8F /0`: POP; the effective address is that of the state before the pop. -/
def execPopEv (e : Rm Reg16) (s : State) : Result := s.tier2 0x8F (s.dropTop.writeE16 (resolve s e) s.top16)

/-- R345, `06`: PUSH ES. -/
def execPushEs (s : State) : Result := .next (s.push16 (s.sreg .es))

/-- R345, `0E`: PUSH CS. -/
def execPushCs (s : State) : Result := .next (s.push16 (s.sreg .cs))

/-- R345, `16`: PUSH SS. -/
def execPushSs (s : State) : Result := .next (s.push16 (s.sreg .ss))

/-- R345, `1E`: PUSH DS. -/
def execPushDs (s : State) : Result := .next (s.push16 (s.sreg .ds))

/-- R346, `07`: POP ES; the word is read with the old SS. -/
def execPopEs (s : State) : Result := .next (s.dropTop.setSreg .es s.top16)

/-- R346, `17`: POP SS; the word is read with the old SS. -/
def execPopSs (s : State) : Result := .next (s.dropTop.setSreg .ss s.top16)

/-- R346, `1F`: POP DS; the word is read with the old SS. -/
def execPopDs (s : State) : Result := .next (s.dropTop.setSreg .ds s.top16)

/-- R348, `9C`: PUSHF. -/
def execPushf (s : State) : Result := .next (s.push16 s.flags.pack)

/-- R349, `9D`: POPF. -/
def execPopf (s : State) : Result := .next (s.dropTop.setFlagsWord s.top16)

end Sys2Proof.Machine
end

