-- ==== Sys2Proof/Machine/StringOps.lean ====
section
/-! DEFINITION. MOVS, CMPS, STOS, LODS and SCAS in two widths, under the repeat loop (47_string.md). A repeated instruction with all
its iterations is one step (R372). -/

namespace Sys2Proof.Machine

/-! ## Common rules (R371 to R375) -/

/-- The index step: plus or minus the element's size by DF (R374). -/
def indexStep (size : Word) (s : State) : Word := if s.flags.df then -size else size

/-- SI moved by the index step (R374). -/
def advanceSi (size : Word) (s : State) : State := s.setReg16 .si (s.reg16 .si + indexStep size s)

/-- DI moved by the index step (R374). -/
def advanceDi (size : Word) (s : State) : State := s.setReg16 .di (s.reg16 .di + indexStep size s)

/-- Whether the loop of a CMPS or SCAS ends after a comparison that left ZF = `zf` (R372). -/
def stopsOn (mode : RepMode) (zf : Bool) : Bool :=
  match mode with
  | .repz => !zf
  | .repnz => zf

/-- At most `n` iterations of the loop of R372, `n` being CX on entry: the first with source segment `seg`, the later ones with
`later`; after each, CX is decremented and, if `compares`, the exit condition is tested. -/
def repeatLoop (compares : Bool) (mode : RepMode) (iter : Word → State → State) (later : Word) : Nat → Word → State → State
  | 0, _, s => s
  | n + 1, seg, s =>
    let s1 := iter seg s
    let s2 := s1.setReg16 .cx (s1.reg16 .cx - 1)
    if compares && stopsOn mode s2.flags.zf then s2 else repeatLoop compares mode iter later n later s2

/-- The string instruction whose one iteration is `iter` (R372). The source segment is DS or the override; the later
iterations keep it only if `OVERRIDE_PERSISTS_IN_REP` is true (R373). -/
def repeatString (compares : Bool) (iter : Word → State → State) (s : State) : State :=
  let src := segmentFor s .ds
  match s.ctx.rep with
  | none => iter src s
  | some mode =>
    repeatLoop compares mode iter (if s.cfg.overridePersistsInRep then src else s.sreg .ds) (s.reg16 .cx).toNat src s

/-! ## One iteration of each (R376 to R383) -/

/-- MOVSB (R376). -/
def movs8 (src : Word) (s : State) : State :=
  advanceDi 1 (advanceSi 1 (s.write8 (s.sreg .es) (s.reg16 .di) (s.read8 src (s.reg16 .si))))

/-- MOVSW (R376). -/
def movs16 (src : Word) (s : State) : State :=
  advanceDi 2 (advanceSi 2 (s.write16 (s.sreg .es) (s.reg16 .di) (s.read16 src (s.reg16 .si))))

/-- CMPSB: source element minus destination element, flags only (R378). -/
def cmps8 (src : Word) (s : State) : State :=
  advanceDi 1 (advanceSi 1 (s.setFlags
    (alu .sub (s.read8 src (s.reg16 .si)) (s.read8 (s.sreg .es) (s.reg16 .di)) s.flags).2))

/-- CMPSW (R378). -/
def cmps16 (src : Word) (s : State) : State :=
  advanceDi 2 (advanceSi 2 (s.setFlags
    (alu .sub (s.read16 src (s.reg16 .si)) (s.read16 (s.sreg .es) (s.reg16 .di)) s.flags).2))

/-- STOSB: ES:DI cannot be overridden (R380). -/
def stos8 (_src : Word) (s : State) : State := advanceDi 1 (s.write8 (s.sreg .es) (s.reg16 .di) (s.reg8 .al))

/-- STOSW (R380). -/
def stos16 (_src : Word) (s : State) : State := advanceDi 2 (s.write16 (s.sreg .es) (s.reg16 .di) (s.reg16 .ax))

/-- LODSB: AH unchanged (R381). -/
def lods8 (src : Word) (s : State) : State := advanceSi 1 (s.setReg8 .al (s.read8 src (s.reg16 .si)))

/-- LODSW (R381). -/
def lods16 (src : Word) (s : State) : State := advanceSi 2 (s.setReg16 .ax (s.read16 src (s.reg16 .si)))

/-- SCASB: accumulator minus destination element, flags only (R383). -/
def scas8 (_src : Word) (s : State) : State :=
  advanceDi 1 (s.setFlags (alu .sub (s.reg8 .al) (s.read8 (s.sreg .es) (s.reg16 .di)) s.flags).2)

/-- SCASW (R383). -/
def scas16 (_src : Word) (s : State) : State :=
  advanceDi 2 (s.setFlags (alu .sub (s.reg16 .ax) (s.read16 (s.sreg .es) (s.reg16 .di)) s.flags).2)

/-! ## The instructions -/

/-- R376, R372, `A4`: MOVSB under the active repeat mode. -/
def execMovsb (s : State) : Result := .next (repeatString false movs8 s)

/-- R376, R372, `A5`: MOVSW under the active repeat mode. -/
def execMovsw (s : State) : Result := .next (repeatString false movs16 s)

/-- R378, R372, `A6`: CMPSB under the active repeat mode. -/
def execCmpsb (s : State) : Result := .next (repeatString true cmps8 s)

/-- R378, R372, `A7`: CMPSW under the active repeat mode. -/
def execCmpsw (s : State) : Result := .next (repeatString true cmps16 s)

/-- R380, R372, `AA`: STOSB under the active repeat mode. -/
def execStosb (s : State) : Result := .next (repeatString false stos8 s)

/-- R380, R372, `AB`: STOSW under the active repeat mode. -/
def execStosw (s : State) : Result := .next (repeatString false stos16 s)

/-- R381, R372, `AC`: LODSB under the active repeat mode. -/
def execLodsb (s : State) : Result := .next (repeatString false lods8 s)

/-- R381, R372, `AD`: LODSW under the active repeat mode. -/
def execLodsw (s : State) : Result := .next (repeatString false lods16 s)

/-- R383, R372, `AE`: SCASB under the active repeat mode. -/
def execScasb (s : State) : Result := .next (repeatString true scas8 s)

/-- R383, R372, `AF`: SCASW under the active repeat mode. -/
def execScasw (s : State) : Result := .next (repeatString true scas16 s)

end Sys2Proof.Machine
end

