-- ==== Sys2Proof/Machine/System.lean ====
section
/-! DEFINITION. Flag instructions, SAHF, LAHF, software interrupts, IRET, HLT, NOP (49_flags_int_hlt.md), the eight prefix bytes (R105) and
the two fatal decode errors (R501, R502). -/

namespace Sys2Proof.Machine



/-! ## The instructions -/

/-- R470, `CD ib`: INT. -/
def execIntIb (n : Byte) (s : State) : Result := .next (s.interrupt n)

/-- R117, R118, R501: an opcode byte that selects no instruction. -/
def execUnimplementedOpcode (op : Byte) (s : State) : Result := s.raiseUnimplemented op

/-- R450, `F8`: CLC. -/
def execClc (s : State) : Result := .next (s.setFlags { s.flags with cf := false })

/-- R451, `F9`: STC. -/
def execStc (s : State) : Result := .next (s.setFlags { s.flags with cf := true })

/-- R452, `F5`: CMC. -/
def execCmc (s : State) : Result := .next (s.setFlags { s.flags with cf := !s.flags.cf })

/-- R453, `FA`: CLI. -/
def execCli (s : State) : Result := .next (s.setFlags { s.flags with other := s.flags.other &&& ~~~0x0200#16 })

/-- R454, `FB`: STI. -/
def execSti (s : State) : Result := .next (s.setFlags { s.flags with other := s.flags.other ||| 0x0200#16 })

/-- R455, `FC`: CLD. -/
def execCld (s : State) : Result := .next (s.setFlags { s.flags with other := s.flags.other &&& ~~~0x0400#16 })

/-- R456, `FD`: STD. -/
def execStd (s : State) : Result := .next (s.setFlags { s.flags with other := s.flags.other ||| 0x0400#16 })

/-- R459, `9E`: SAHF. -/
def execSahf (s : State) : Result := .next (s.setFlags (s.flags.loadAh (s.reg8 .ah)))

/-- R460, `9F`: LAHF. -/
def execLahf (s : State) : Result := .next (s.setReg8 .ah (loByte s.flags.pack))

/-- R471, `CC`: INT3. -/
def execInt3 (s : State) : Result := .next (s.interrupt 3)

/-- R472, `CE`: INTO; vector 4 when OF = 1, otherwise nothing but the advance of IP. -/
def execInto (s : State) : Result := .next (if s.flags.of then s.interrupt 4 else s)

/-- R474, `CF`: IRET. -/
def execIret (s : State) : Result := .next s.interruptReturn

/-- R476, `F4`: HLT; only the Halt signal is raised (log 5). -/
def execHlt (s : State) : Result := .next (s.setHalt true)

/-- R478, `90`: NOP. -/
def execNop (s : State) : Result := s.tier2 0x90 (s)

/-- R105, R106, `26`: prefix, override <- ES; the step goes on with the next byte. -/
def execPrefixEs (s : State) : Result := .next (s.setCtx { s.ctx with override := some .es })

/-- R105, R106, `2E`: prefix, override <- CS; the step goes on with the next byte. -/
def execPrefixCs (s : State) : Result := .next (s.setCtx { s.ctx with override := some .cs })

/-- R105, R106, `36`: prefix, override <- SS; the step goes on with the next byte. -/
def execPrefixSs (s : State) : Result := .next (s.setCtx { s.ctx with override := some .ss })

/-- R105, R106, `3E`: prefix, override <- DS; the step goes on with the next byte. -/
def execPrefixDs (s : State) : Result := .next (s.setCtx { s.ctx with override := some .ds })

/-- R105, R106, `F0`: prefix, lock <- true; the step goes on with the next byte. -/
def execLockF0 (s : State) : Result := .next (s.setCtx { s.ctx with lock := true })

/-- R105, R106, `F1`: prefix, lock <- true (second encoding); the step goes on with the next byte. -/
def execLockF1 (s : State) : Result := .next (s.setCtx { s.ctx with lock := true })

/-- R105, R106, `F2`: prefix, rep <- REPNZ; the step goes on with the next byte. -/
def execRepnz (s : State) : Result := .next (s.setCtx { s.ctx with rep := some .repnz })

/-- R105, R106, `F3`: prefix, rep <- REPZ; the step goes on with the next byte. -/
def execRepz (s : State) : Result := .next (s.setCtx { s.ctx with rep := some .repz })

/-- R120, R121, R122, R502: a malformed ModR/M combination. Where the opcode byte is wholly tier 2 and `STRICT_SOURCE_SET` is
true the opcode byte is rejected first. -/
def execInvalidOperandEncoding (op : Byte) (modrm : Byte) (s : State) : Result :=
  if isTier2Only op && s.cfg.strictSourceSet then s.raiseUnimplemented op else s.raiseInvalidEncoding op modrm

end Sys2Proof.Machine
end

