-- ==== Sys2Proof/Machine/Transfer.lean ====
section
/-! DEFINITION. MOV in all its forms, LEA, XCHG, LES, LDS, XLAT, CBW, CWD, IN and OUT (45_data_transfer.md). None writes a flag (R290). -/

namespace Sys2Proof.Machine

/-- XCHG on bytes: both are read before either is written; the `E` operand is written first (R312). -/
def exchange8 (o : Operand Reg8) (g : Reg8) (s : State) : State := (s.writeE8 o (s.reg8 g)).setReg8 g (s.readE8 o)

/-- XCHG on words (R312). -/
def exchange16 (o : Operand Reg16) (g : Reg16) (s : State) : State := (s.writeE16 o (s.reg16 g)).setReg16 g (s.readE16 o)

/-- XCHG AX,r16 (R313). -/
def exchangeAx (r : Reg16) (s : State) : State := (s.setReg16 .ax (s.reg16 r)).setReg16 r (s.reg16 .ax)

/-- LES and LDS: both words are read before either register is written (R314, R315). -/
def loadFarPointer (sr : SReg) (g : Reg16) (m : MemRef) (s : State) : State :=
  (s.setReg16 g (s.farOffset m)).setSreg sr (s.farSegment m)

/-- IN AL: one byte-wide contract call; AH unchanged (R322). -/
def inTo8 (port : Word) (s : State) : State := (s.afterPortRead port .byte).setReg8 .al (loByte (s.portAnswer port .byte))

/-- IN AX: one word-wide contract call (R323). -/
def inTo16 (port : Word) (s : State) : State := (s.afterPortRead port .word).setReg16 .ax (s.portAnswer port .word)

/-- OUT AL (R324). -/
def outFrom8 (port : Word) (s : State) : State := s.portWrite port .byte ((s.reg8 .al).setWidth 16)

/-- OUT AX: one word-wide contract call (R325). -/
def outFrom16 (port : Word) (s : State) : State := s.portWrite port .word (s.reg16 .ax)

/-! ## The instructions -/

/-- R300, `88 /r`: MOV Eb,Gb. -/
def execMovEbGb (e : Rm Reg8) (g : Reg8) (s : State) : Result := .next (s.writeE8 (resolve s e) (s.reg8 g))

/-- R301, `89 /r`: MOV Ev,Gv. -/
def execMovEvGv (e : Rm Reg16) (g : Reg16) (s : State) : Result := .next (s.writeE16 (resolve s e) (s.reg16 g))

/-- R302, `8A /r`: MOV Gb,Eb. -/
def execMovGbEb (g : Reg8) (e : Rm Reg8) (s : State) : Result := .next (s.setReg8 g (s.readE8 (resolve s e)))

/-- R303, `8B /r`: MOV Gv,Ev. -/
def execMovGvEv (g : Reg16) (e : Rm Reg16) (s : State) : Result := .next (s.setReg16 g (s.readE16 (resolve s e)))

/-- R304, `8C /r`: MOV Ew,Sw. -/
def execMovEwSw (e : Rm Reg16) (sr : SReg) (s : State) : Result := .next (s.writeE16 (resolve s e) (s.sreg sr))

/-- R308, `8D /r`: LEA; the offset alone, no memory access. -/
def execLeaGvM (g : Reg16) (m : MemRef) (s : State) : Result := .next (s.setReg16 g (effectiveAddress s m))

/-- R305, `8E /r`: MOV Sw,Ew. -/
def execMovSwEw (sr : SReg) (e : Rm Reg16) (s : State) : Result := .next (s.setSreg sr (s.readE16 (resolve s e)))

/-- R310, `A0 iw`: MOV AL,Ob. -/
def execMovAlOb (off : Word) (s : State) : Result := .next (s.setReg8 .al (s.read8 (segmentFor s .ds) off))

/-- R310, `A1 iw`: MOV AX,Ov. -/
def execMovAxOv (off : Word) (s : State) : Result := .next (s.setReg16 .ax (s.read16 (segmentFor s .ds) off))

/-- R311, `A2 iw`: MOV Ob,AL. -/
def execMovObAl (off : Word) (s : State) : Result := .next (s.write8 (segmentFor s .ds) off (s.reg8 .al))

/-- R311, `A3 iw`: MOV Ov,AX. -/
def execMovOvAx (off : Word) (s : State) : Result := .next (s.write16 (segmentFor s .ds) off (s.reg16 .ax))

/-- R306, `B0+r ib`: MOV r8,Ib. -/
def execMovR8Ib (r : Reg8) (imm : Byte) (s : State) : Result := .next (s.setReg8 r imm)

/-- R307, `B8+r iw`: MOV r16,Iv. -/
def execMovR16Iv (r : Reg16) (imm : Word) (s : State) : Result := .next (s.setReg16 r imm)

/-- R309, `C6 /0 ib`: MOV Eb,Ib. -/
def execMovEbIb (e : Rm Reg8) (imm : Byte) (s : State) : Result := .next (s.writeE8 (resolve s e) imm)

/-- R309, `C7 /0 iw`: MOV Ev,Iv. -/
def execMovEvIv (e : Rm Reg16) (imm : Word) (s : State) : Result := .next (s.writeE16 (resolve s e) imm)

/-- R312, `86 /r`: XCHG Eb,Gb. -/
def execXchgEbGb (e : Rm Reg8) (g : Reg8) (s : State) : Result := s.tier2 0x86 (exchange8 (resolve s e) g s)

/-- R312, `87 /r`: XCHG Ev,Gv. -/
def execXchgEvGv (e : Rm Reg16) (g : Reg16) (s : State) : Result := s.tier2 0x87 (exchange16 (resolve s e) g s)

/-- R313, `91`: XCHG AX,CX. -/
def execXchgAxCx (s : State) : Result := s.tier2 0x91 (exchangeAx .cx s)

/-- R313, `92`: XCHG AX,DX. -/
def execXchgAxDx (s : State) : Result := s.tier2 0x92 (exchangeAx .dx s)

/-- R313, `93`: XCHG AX,BX. -/
def execXchgAxBx (s : State) : Result := s.tier2 0x93 (exchangeAx .bx s)

/-- R313, `94`: XCHG AX,SP. -/
def execXchgAxSp (s : State) : Result := s.tier2 0x94 (exchangeAx .sp s)

/-- R313, `95`: XCHG AX,BP. -/
def execXchgAxBp (s : State) : Result := s.tier2 0x95 (exchangeAx .bp s)

/-- R313, `96`: XCHG AX,SI. -/
def execXchgAxSi (s : State) : Result := s.tier2 0x96 (exchangeAx .si s)

/-- R313, `97`: XCHG AX,DI. -/
def execXchgAxDi (s : State) : Result := s.tier2 0x97 (exchangeAx .di s)

/-- R314, `C4 /r`: LES Gv,Mp. -/
def execLesGvMp (g : Reg16) (m : MemRef) (s : State) : Result := s.tier2 0xC4 (loadFarPointer .es g m s)

/-- R315, `C5 /r`: LDS Gv,Mp. -/
def execLdsGvMp (g : Reg16) (m : MemRef) (s : State) : Result := s.tier2 0xC5 (loadFarPointer .ds g m s)

/-- R316, `D7`: XLAT; AL is added to BX unsigned. -/
def execXlat (s : State) : Result := s.tier2 0xD7 (s.setReg8 .al (s.read8 (segmentFor s .ds) (s.reg16 .bx + (s.reg8 .al).setWidth 16)))

/-- R317, `98`: CBW. -/
def execCbw (s : State) : Result := s.tier2 0x98 (s.setReg16 .ax (sext8 (s.reg8 .al)))

/-- R318, `99`: CWD. -/
def execCwd (s : State) : Result := s.tier2 0x99 (s.setReg16 .dx (if (s.reg16 .ax).msb then 0xFFFF#16 else 0#16))

/-- R322, `E4 ib`: IN AL,Ib. -/
def execInAlIb (port : Byte) (s : State) : Result := .next (inTo8 (port.setWidth 16) s)

/-- R323, `E5 ib`: IN AX,Ib. -/
def execInAxIb (port : Byte) (s : State) : Result := .next (inTo16 (port.setWidth 16) s)

/-- R324, `E6 ib`: OUT Ib,AL. -/
def execOutIbAl (port : Byte) (s : State) : Result := .next (outFrom8 (port.setWidth 16) s)

/-- R325, `E7 ib`: OUT Ib,AX. -/
def execOutIbAx (port : Byte) (s : State) : Result := .next (outFrom16 (port.setWidth 16) s)

/-- R322, `EC`: IN AL,DX. -/
def execInAlDx (s : State) : Result := .next (inTo8 (s.reg16 .dx) s)

/-- R323, `ED`: IN AX,DX. -/
def execInAxDx (s : State) : Result := .next (inTo16 (s.reg16 .dx) s)

/-- R324, `EE`: OUT DX,AL. -/
def execOutDxAl (s : State) : Result := .next (outFrom8 (s.reg16 .dx) s)

/-- R325, `EF`: OUT DX,AX. -/
def execOutDxAx (s : State) : Result := .next (outFrom16 (s.reg16 .dx) s)

end Sys2Proof.Machine
end

