-- ==== Sys2Proof/Machine/Dispatch.lean ====
section
/-! DEFINITION. One arm per constructor of Instr, each one direct call of its meaning. The state `exec` is given has IP past the
instruction's bytes (R30) and the decode context as the prefixes left it (R104). -/

namespace Sys2Proof.Machine

def exec (i : Instr) (s : State) : Host.Outcome State Fault Refusal :=
  match i with
  -- Alu
  | .addEbGb e g => Sys2Proof.Machine.execAddEbGb e g s
  | .addEvGv e g => Sys2Proof.Machine.execAddEvGv e g s
  | .addGbEb g e => Sys2Proof.Machine.execAddGbEb g e s
  | .addGvEv g e => Sys2Proof.Machine.execAddGvEv g e s
  | .addAlIb imm => Sys2Proof.Machine.execAddAlIb imm s
  | .addAxIv imm => Sys2Proof.Machine.execAddAxIv imm s
  | .orEbGb e g => Sys2Proof.Machine.execOrEbGb e g s
  | .orEvGv e g => Sys2Proof.Machine.execOrEvGv e g s
  | .orGbEb g e => Sys2Proof.Machine.execOrGbEb g e s
  | .orGvEv g e => Sys2Proof.Machine.execOrGvEv g e s
  | .orAlIb imm => Sys2Proof.Machine.execOrAlIb imm s
  | .orAxIv imm => Sys2Proof.Machine.execOrAxIv imm s
  | .adcEbGb e g => Sys2Proof.Machine.execAdcEbGb e g s
  | .adcEvGv e g => Sys2Proof.Machine.execAdcEvGv e g s
  | .adcGbEb g e => Sys2Proof.Machine.execAdcGbEb g e s
  | .adcGvEv g e => Sys2Proof.Machine.execAdcGvEv g e s
  | .adcAlIb imm => Sys2Proof.Machine.execAdcAlIb imm s
  | .adcAxIv imm => Sys2Proof.Machine.execAdcAxIv imm s
  | .sbbEbGb e g => Sys2Proof.Machine.execSbbEbGb e g s
  | .sbbEvGv e g => Sys2Proof.Machine.execSbbEvGv e g s
  | .sbbGbEb g e => Sys2Proof.Machine.execSbbGbEb g e s
  | .sbbGvEv g e => Sys2Proof.Machine.execSbbGvEv g e s
  | .sbbAlIb imm => Sys2Proof.Machine.execSbbAlIb imm s
  | .sbbAxIv imm => Sys2Proof.Machine.execSbbAxIv imm s
  | .andEbGb e g => Sys2Proof.Machine.execAndEbGb e g s
  | .andEvGv e g => Sys2Proof.Machine.execAndEvGv e g s
  | .andGbEb g e => Sys2Proof.Machine.execAndGbEb g e s
  | .andGvEv g e => Sys2Proof.Machine.execAndGvEv g e s
  | .andAlIb imm => Sys2Proof.Machine.execAndAlIb imm s
  | .andAxIv imm => Sys2Proof.Machine.execAndAxIv imm s
  | .subEbGb e g => Sys2Proof.Machine.execSubEbGb e g s
  | .subEvGv e g => Sys2Proof.Machine.execSubEvGv e g s
  | .subGbEb g e => Sys2Proof.Machine.execSubGbEb g e s
  | .subGvEv g e => Sys2Proof.Machine.execSubGvEv g e s
  | .subAlIb imm => Sys2Proof.Machine.execSubAlIb imm s
  | .subAxIv imm => Sys2Proof.Machine.execSubAxIv imm s
  | .xorEbGb e g => Sys2Proof.Machine.execXorEbGb e g s
  | .xorEvGv e g => Sys2Proof.Machine.execXorEvGv e g s
  | .xorGbEb g e => Sys2Proof.Machine.execXorGbEb g e s
  | .xorGvEv g e => Sys2Proof.Machine.execXorGvEv g e s
  | .xorAlIb imm => Sys2Proof.Machine.execXorAlIb imm s
  | .xorAxIv imm => Sys2Proof.Machine.execXorAxIv imm s
  | .cmpEbGb e g => Sys2Proof.Machine.execCmpEbGb e g s
  | .cmpEvGv e g => Sys2Proof.Machine.execCmpEvGv e g s
  | .cmpGbEb g e => Sys2Proof.Machine.execCmpGbEb g e s
  | .cmpGvEv g e => Sys2Proof.Machine.execCmpGvEv g e s
  | .cmpAlIb imm => Sys2Proof.Machine.execCmpAlIb imm s
  | .cmpAxIv imm => Sys2Proof.Machine.execCmpAxIv imm s
  | .addEbIb e imm => Sys2Proof.Machine.execAddEbIb e imm s
  | .addEvIv e imm => Sys2Proof.Machine.execAddEvIv e imm s
  | .addEbIb82 e imm => Sys2Proof.Machine.execAddEbIb82 e imm s
  | .addEvIbs e imm => Sys2Proof.Machine.execAddEvIbs e imm s
  | .orEbIb e imm => Sys2Proof.Machine.execOrEbIb e imm s
  | .orEvIv e imm => Sys2Proof.Machine.execOrEvIv e imm s
  | .orEbIb82 e imm => Sys2Proof.Machine.execOrEbIb82 e imm s
  | .orEvIbs e imm => Sys2Proof.Machine.execOrEvIbs e imm s
  | .adcEbIb e imm => Sys2Proof.Machine.execAdcEbIb e imm s
  | .adcEvIv e imm => Sys2Proof.Machine.execAdcEvIv e imm s
  | .adcEbIb82 e imm => Sys2Proof.Machine.execAdcEbIb82 e imm s
  | .adcEvIbs e imm => Sys2Proof.Machine.execAdcEvIbs e imm s
  | .sbbEbIb e imm => Sys2Proof.Machine.execSbbEbIb e imm s
  | .sbbEvIv e imm => Sys2Proof.Machine.execSbbEvIv e imm s
  | .sbbEbIb82 e imm => Sys2Proof.Machine.execSbbEbIb82 e imm s
  | .sbbEvIbs e imm => Sys2Proof.Machine.execSbbEvIbs e imm s
  | .andEbIb e imm => Sys2Proof.Machine.execAndEbIb e imm s
  | .andEvIv e imm => Sys2Proof.Machine.execAndEvIv e imm s
  | .andEbIb82 e imm => Sys2Proof.Machine.execAndEbIb82 e imm s
  | .andEvIbs e imm => Sys2Proof.Machine.execAndEvIbs e imm s
  | .subEbIb e imm => Sys2Proof.Machine.execSubEbIb e imm s
  | .subEvIv e imm => Sys2Proof.Machine.execSubEvIv e imm s
  | .subEbIb82 e imm => Sys2Proof.Machine.execSubEbIb82 e imm s
  | .subEvIbs e imm => Sys2Proof.Machine.execSubEvIbs e imm s
  | .xorEbIb e imm => Sys2Proof.Machine.execXorEbIb e imm s
  | .xorEvIv e imm => Sys2Proof.Machine.execXorEvIv e imm s
  | .xorEbIb82 e imm => Sys2Proof.Machine.execXorEbIb82 e imm s
  | .xorEvIbs e imm => Sys2Proof.Machine.execXorEvIbs e imm s
  | .cmpEbIb e imm => Sys2Proof.Machine.execCmpEbIb e imm s
  | .cmpEvIv e imm => Sys2Proof.Machine.execCmpEvIv e imm s
  | .cmpEbIb82 e imm => Sys2Proof.Machine.execCmpEbIb82 e imm s
  | .cmpEvIbs e imm => Sys2Proof.Machine.execCmpEvIbs e imm s
  | .testEbGb e g => Sys2Proof.Machine.execTestEbGb e g s
  | .testEvGv e g => Sys2Proof.Machine.execTestEvGv e g s
  | .testAlIb imm => Sys2Proof.Machine.execTestAlIb imm s
  | .testAxIv imm => Sys2Proof.Machine.execTestAxIv imm s
  | .testEbIb e imm => Sys2Proof.Machine.execTestEbIb e imm s
  | .testEvIv e imm => Sys2Proof.Machine.execTestEvIv e imm s
  | .incR16 r => Sys2Proof.Machine.execIncR16 r s
  | .incEb e => Sys2Proof.Machine.execIncEb e s
  | .incEv e => Sys2Proof.Machine.execIncEv e s
  | .decR16 r => Sys2Proof.Machine.execDecR16 r s
  | .decEb e => Sys2Proof.Machine.execDecEb e s
  | .decEv e => Sys2Proof.Machine.execDecEv e s
  | .notEb e => Sys2Proof.Machine.execNotEb e s
  | .notEv e => Sys2Proof.Machine.execNotEv e s
  | .negEb e => Sys2Proof.Machine.execNegEb e s
  | .negEv e => Sys2Proof.Machine.execNegEv e s
  -- Bcd
  | .daa => Sys2Proof.Machine.execDaa s
  | .das => Sys2Proof.Machine.execDas s
  | .aaa => Sys2Proof.Machine.execAaa s
  | .aas => Sys2Proof.Machine.execAas s
  | .aam imm => Sys2Proof.Machine.execAam imm s
  | .aad imm => Sys2Proof.Machine.execAad imm s
  -- Shift
  | .rolEb1 e => Sys2Proof.Machine.execRolEb1 e s
  | .rolEv1 e => Sys2Proof.Machine.execRolEv1 e s
  | .rolEbCl e => Sys2Proof.Machine.execRolEbCl e s
  | .rolEvCl e => Sys2Proof.Machine.execRolEvCl e s
  | .rorEb1 e => Sys2Proof.Machine.execRorEb1 e s
  | .rorEv1 e => Sys2Proof.Machine.execRorEv1 e s
  | .rorEbCl e => Sys2Proof.Machine.execRorEbCl e s
  | .rorEvCl e => Sys2Proof.Machine.execRorEvCl e s
  | .rclEb1 e => Sys2Proof.Machine.execRclEb1 e s
  | .rclEv1 e => Sys2Proof.Machine.execRclEv1 e s
  | .rclEbCl e => Sys2Proof.Machine.execRclEbCl e s
  | .rclEvCl e => Sys2Proof.Machine.execRclEvCl e s
  | .rcrEb1 e => Sys2Proof.Machine.execRcrEb1 e s
  | .rcrEv1 e => Sys2Proof.Machine.execRcrEv1 e s
  | .rcrEbCl e => Sys2Proof.Machine.execRcrEbCl e s
  | .rcrEvCl e => Sys2Proof.Machine.execRcrEvCl e s
  | .shlEb1 e => Sys2Proof.Machine.execShlEb1 e s
  | .shlEv1 e => Sys2Proof.Machine.execShlEv1 e s
  | .shlEbCl e => Sys2Proof.Machine.execShlEbCl e s
  | .shlEvCl e => Sys2Proof.Machine.execShlEvCl e s
  | .shrEb1 e => Sys2Proof.Machine.execShrEb1 e s
  | .shrEv1 e => Sys2Proof.Machine.execShrEv1 e s
  | .shrEbCl e => Sys2Proof.Machine.execShrEbCl e s
  | .shrEvCl e => Sys2Proof.Machine.execShrEvCl e s
  | .sarEb1 e => Sys2Proof.Machine.execSarEb1 e s
  | .sarEv1 e => Sys2Proof.Machine.execSarEv1 e s
  | .sarEbCl e => Sys2Proof.Machine.execSarEbCl e s
  | .sarEvCl e => Sys2Proof.Machine.execSarEvCl e s
  -- MulDiv
  | .mulEb e => Sys2Proof.Machine.execMulEb e s
  | .mulEv e => Sys2Proof.Machine.execMulEv e s
  | .imulEb e => Sys2Proof.Machine.execImulEb e s
  | .imulEv e => Sys2Proof.Machine.execImulEv e s
  | .divEb e => Sys2Proof.Machine.execDivEb e s
  | .divEv e => Sys2Proof.Machine.execDivEv e s
  | .idivEb e => Sys2Proof.Machine.execIdivEb e s
  | .idivEv e => Sys2Proof.Machine.execIdivEv e s
  -- Transfer
  | .movEbGb e g => Sys2Proof.Machine.execMovEbGb e g s
  | .movEvGv e g => Sys2Proof.Machine.execMovEvGv e g s
  | .movGbEb g e => Sys2Proof.Machine.execMovGbEb g e s
  | .movGvEv g e => Sys2Proof.Machine.execMovGvEv g e s
  | .movEwSw e sr => Sys2Proof.Machine.execMovEwSw e sr s
  | .leaGvM g m => Sys2Proof.Machine.execLeaGvM g m s
  | .movSwEw sr e => Sys2Proof.Machine.execMovSwEw sr e s
  | .movAlOb off => Sys2Proof.Machine.execMovAlOb off s
  | .movAxOv off => Sys2Proof.Machine.execMovAxOv off s
  | .movObAl off => Sys2Proof.Machine.execMovObAl off s
  | .movOvAx off => Sys2Proof.Machine.execMovOvAx off s
  | .movR8Ib r imm => Sys2Proof.Machine.execMovR8Ib r imm s
  | .movR16Iv r imm => Sys2Proof.Machine.execMovR16Iv r imm s
  | .movEbIb e imm => Sys2Proof.Machine.execMovEbIb e imm s
  | .movEvIv e imm => Sys2Proof.Machine.execMovEvIv e imm s
  | .xchgEbGb e g => Sys2Proof.Machine.execXchgEbGb e g s
  | .xchgEvGv e g => Sys2Proof.Machine.execXchgEvGv e g s
  | .xchgAxCx => Sys2Proof.Machine.execXchgAxCx s
  | .xchgAxDx => Sys2Proof.Machine.execXchgAxDx s
  | .xchgAxBx => Sys2Proof.Machine.execXchgAxBx s
  | .xchgAxSp => Sys2Proof.Machine.execXchgAxSp s
  | .xchgAxBp => Sys2Proof.Machine.execXchgAxBp s
  | .xchgAxSi => Sys2Proof.Machine.execXchgAxSi s
  | .xchgAxDi => Sys2Proof.Machine.execXchgAxDi s
  | .lesGvMp g m => Sys2Proof.Machine.execLesGvMp g m s
  | .ldsGvMp g m => Sys2Proof.Machine.execLdsGvMp g m s
  | .xlat => Sys2Proof.Machine.execXlat s
  | .cbw => Sys2Proof.Machine.execCbw s
  | .cwd => Sys2Proof.Machine.execCwd s
  | .inAlIb port => Sys2Proof.Machine.execInAlIb port s
  | .inAxIb port => Sys2Proof.Machine.execInAxIb port s
  | .outIbAl port => Sys2Proof.Machine.execOutIbAl port s
  | .outIbAx port => Sys2Proof.Machine.execOutIbAx port s
  | .inAlDx => Sys2Proof.Machine.execInAlDx s
  | .inAxDx => Sys2Proof.Machine.execInAxDx s
  | .outDxAl => Sys2Proof.Machine.execOutDxAl s
  | .outDxAx => Sys2Proof.Machine.execOutDxAx s
  -- Stack
  | .pushAx => Sys2Proof.Machine.execPushAx s
  | .pushCx => Sys2Proof.Machine.execPushCx s
  | .pushDx => Sys2Proof.Machine.execPushDx s
  | .pushBx => Sys2Proof.Machine.execPushBx s
  | .pushSp => Sys2Proof.Machine.execPushSp s
  | .pushBp => Sys2Proof.Machine.execPushBp s
  | .pushSi => Sys2Proof.Machine.execPushSi s
  | .pushDi => Sys2Proof.Machine.execPushDi s
  | .popR16 r => Sys2Proof.Machine.execPopR16 r s
  | .pushEv e => Sys2Proof.Machine.execPushEv e s
  | .popEv e => Sys2Proof.Machine.execPopEv e s
  | .pushEs => Sys2Proof.Machine.execPushEs s
  | .pushCs => Sys2Proof.Machine.execPushCs s
  | .pushSs => Sys2Proof.Machine.execPushSs s
  | .pushDs => Sys2Proof.Machine.execPushDs s
  | .popEs => Sys2Proof.Machine.execPopEs s
  | .popSs => Sys2Proof.Machine.execPopSs s
  | .popDs => Sys2Proof.Machine.execPopDs s
  | .pushf => Sys2Proof.Machine.execPushf s
  | .popf => Sys2Proof.Machine.execPopf s
  -- StringOps
  | .movsb => Sys2Proof.Machine.execMovsb s
  | .movsw => Sys2Proof.Machine.execMovsw s
  | .cmpsb => Sys2Proof.Machine.execCmpsb s
  | .cmpsw => Sys2Proof.Machine.execCmpsw s
  | .stosb => Sys2Proof.Machine.execStosb s
  | .stosw => Sys2Proof.Machine.execStosw s
  | .lodsb => Sys2Proof.Machine.execLodsb s
  | .lodsw => Sys2Proof.Machine.execLodsw s
  | .scasb => Sys2Proof.Machine.execScasb s
  | .scasw => Sys2Proof.Machine.execScasw s
  -- Control
  | .jo d => Sys2Proof.Machine.execJo d s
  | .jno d => Sys2Proof.Machine.execJno d s
  | .jb d => Sys2Proof.Machine.execJb d s
  | .jnb d => Sys2Proof.Machine.execJnb d s
  | .je d => Sys2Proof.Machine.execJe d s
  | .jne d => Sys2Proof.Machine.execJne d s
  | .jbe d => Sys2Proof.Machine.execJbe d s
  | .jnbe d => Sys2Proof.Machine.execJnbe d s
  | .js d => Sys2Proof.Machine.execJs d s
  | .jns d => Sys2Proof.Machine.execJns d s
  | .jp d => Sys2Proof.Machine.execJp d s
  | .jnp d => Sys2Proof.Machine.execJnp d s
  | .jl d => Sys2Proof.Machine.execJl d s
  | .jnl d => Sys2Proof.Machine.execJnl d s
  | .jle d => Sys2Proof.Machine.execJle d s
  | .jnle d => Sys2Proof.Machine.execJnle d s
  | .jmpShort d => Sys2Proof.Machine.execJmpShort d s
  | .jmpNear d => Sys2Proof.Machine.execJmpNear d s
  | .jmpEv e => Sys2Proof.Machine.execJmpEv e s
  | .jmpFar off seg => Sys2Proof.Machine.execJmpFar off seg s
  | .jmpMp m => Sys2Proof.Machine.execJmpMp m s
  | .callNear d => Sys2Proof.Machine.execCallNear d s
  | .callEv e => Sys2Proof.Machine.execCallEv e s
  | .callFar off seg => Sys2Proof.Machine.execCallFar off seg s
  | .callMp m => Sys2Proof.Machine.execCallMp m s
  | .retNearIw n => Sys2Proof.Machine.execRetNearIw n s
  | .retNear => Sys2Proof.Machine.execRetNear s
  | .retFarIw n => Sys2Proof.Machine.execRetFarIw n s
  | .retFar => Sys2Proof.Machine.execRetFar s
  | .loopne d => Sys2Proof.Machine.execLoopne d s
  | .loope d => Sys2Proof.Machine.execLoope d s
  | .loop d => Sys2Proof.Machine.execLoop d s
  | .jcxz d => Sys2Proof.Machine.execJcxz d s
  -- System
  | .intIb n => Sys2Proof.Machine.execIntIb n s
  | .unimplementedOpcode op => Sys2Proof.Machine.execUnimplementedOpcode op s
  | .invalidOperandEncoding op modrm => Sys2Proof.Machine.execInvalidOperandEncoding op modrm s
  | .clc => Sys2Proof.Machine.execClc s
  | .stc => Sys2Proof.Machine.execStc s
  | .cmc => Sys2Proof.Machine.execCmc s
  | .cli => Sys2Proof.Machine.execCli s
  | .sti => Sys2Proof.Machine.execSti s
  | .cld => Sys2Proof.Machine.execCld s
  | .std => Sys2Proof.Machine.execStd s
  | .sahf => Sys2Proof.Machine.execSahf s
  | .lahf => Sys2Proof.Machine.execLahf s
  | .int3 => Sys2Proof.Machine.execInt3 s
  | .into => Sys2Proof.Machine.execInto s
  | .iret => Sys2Proof.Machine.execIret s
  | .hlt => Sys2Proof.Machine.execHlt s
  | .nop => Sys2Proof.Machine.execNop s
  | .prefixEs => Sys2Proof.Machine.execPrefixEs s
  | .prefixCs => Sys2Proof.Machine.execPrefixCs s
  | .prefixSs => Sys2Proof.Machine.execPrefixSs s
  | .prefixDs => Sys2Proof.Machine.execPrefixDs s
  | .lockF0 => Sys2Proof.Machine.execLockF0 s
  | .lockF1 => Sys2Proof.Machine.execLockF1 s
  | .repnz => Sys2Proof.Machine.execRepnz s
  | .repz => Sys2Proof.Machine.execRepz s

end Sys2Proof.Machine
end

