-- ==== Sys2Proof/Machine/Cycle.lean ====
section
/-! DEFINITION. The fetch-decode-execute sequencer (30_encoding.md): reading the next instruction's bytes at CS:IP, the prefix
loop, one step, and the placing of bytes where the next fetch reads them. -/

namespace Sys2Proof.Machine

/-! ## Fetching (R30, R102) -/

/-- The physical address of the k-th byte from CS:IP: IP wraps within the segment (R102), also inside a word (R103). -/
def State.fetchAddr (s : State) (k : Nat) : Nat := translate s.seg.cs (s.ip + BitVec.ofNat 16 k).toNat

/-- The length of the longest instruction without prefixes (R101). -/
def maxLength : Nat := 6

/-- The next `n` bytes at CS:IP, read at this moment (R91, R102). A read has no side effect (R75), so looking at more bytes than
the instruction has changes nothing. -/
def State.fetchWindow (s : State) (n : Nat) : List Byte := (List.range n).map (fun k => s.readByte (s.fetchAddr k))

/-- The instruction (or prefix byte) at CS:IP and the state after its bytes were fetched: IP past them (R30), and the place of the
opcode byte, `op_ip` of R104, in the decode context. -/
def State.fetchDecode (s : State) : Option (Instr × State) :=
  match decode (s.fetchWindow maxLength) with
  | .ok p => some (p.1, (s.setIp (s.ip + BitVec.ofNat 16 (maxLength - p.2.length))).setCtx { s.ctx with opIp := s.ip })
  | .error _ => none

/-! ## The step (R104) -/

/-- The start of a step: the decode context is clear (R48), and so is the signal of the step before (log 5). -/
def State.beginStep (s : State) : State := (s.setCtx DecodeCtx.clear).setHalt false

/-- The end of a step: no piece of the decode context is visible to the next step (R48). -/
def endStep : Result → Result
  | .next s => .next (s.setCtx DecodeCtx.clear)
  | .fault f => .fault f
  | .refused r => .refused r

/-- The prefix loop (R104, R106): a prefix byte is executed, which records it, and the next byte is fetched; the first
instruction that is no prefix ends the step. `n` bounds the bytes looked at. -/
def State.prefixLoop : Nat → State → Result
  | 0, _ => .fault .prefixLoopNeverEnds
  | n + 1, s =>
    match s.fetchDecode with
    | none => .refused .truncatedFetch
    | some p =>
      if p.1.isPrefix then
        match exec p.1 p.2 with
        | .next s' => State.prefixLoop n s'
        | .fault f => .fault f
        | .refused r => .refused r
      else endStep (exec p.1 p.2)

/-- One step of the core (R104, R560). When 65,536 bytes in a row are prefixes IP is back where it was, every byte the loop can
reach is a prefix, and the spec's step never completes (R110). -/
def State.runStep (s : State) : Result := s.beginStep.prefixLoop 65536

/-! ## Placing an instruction (log 9) -/

/-- Bytes stored where the next fetch reads them, from the k-th on; as a loader's image, they are there before the step and show no
hook event. -/
def State.placeCode : Nat → List Byte → State → State
  | _, [], s => s
  | k, b :: bs, s => State.placeCode (k + 1) bs (s.setMem (Memory.set s.mem (s.fetchAddr k % s.ramSize) b))

end Sys2Proof.Machine
end

