-- ==== Sys2Proof/Machine/Step.lean ====
section
/-! DEFINITION. The step of the core, and the placing of a table word where the step fetches. -/

namespace Sys2Proof.Machine

/-- One step (R104, R560). -/
def step (s : State) : Host.Outcome State Fault Refusal := s.runStep

/-- The state with the instruction of a table word at CS:IP (log 9). -/
def State.withFetchWord (s : State) (nbits w : Nat) : State := s.placeCode 0 (tableStream nbits w)

end Sys2Proof.Machine
end

