-- ==== Sys2Proof/Safety.lean ====
section
/-! DEFINITION. The terms claims use: the invariant of R50, the run of R561 with its two ends (R570), the spec's flag formulas over
plain integers, and the record of everything an instruction changes. The formulas are written from the rules a second time, in
the spec's own integer notation, so that a claim compares two readings of a rule. -/

namespace Sys2Proof.Machine

/-! ## The invariant and the run -/

/-- What holds between any two steps (R50): no opaque flag bit where a condition flag is, the decode context clear, and RAM in
its canonical form with every address inside the array (R60). The widths of registers and bytes hold by their types. -/
structure State.Inv (s : State) : Prop where
  memWf : Memory.wf s.mem
  memInside : ∀ c ∈ s.mem, c.1 < s.ramSize
  otherBits : s.flags.other &&& 0x08D5#16 = 0#16
  ctxClear : s.ctx = DecodeCtx.clear

/-- The end of a run (R570). The hang of R110 is no end; the model's `Fault.prefixLoopNeverEnds` stands for it. -/
inductive RunEnd where
  | halted (s : State)
  | failed (f : Fault) (s : State)
  deriving DecidableEq, Repr

/-- At most `n` steps of the driving loop (R561): it stops after a Halt and after a fatal error, which leaves the state the step
began with. None: no end within `n` steps. -/
def runToEnd : Nat → State → Option RunEnd
  | 0, _ => none
  | n + 1, s =>
    match step s with
    | .next s' => if s'.halt then some (.halted s') else runToEnd n s'
    | .fault f =>
      match f with
      | .unimplementedOpcode _ _ _ => some (.failed f s)
      | .invalidOperandEncoding _ _ _ _ => some (.failed f s)
      | .prefixLoopNeverEnds => none
    | .refused _ => none

/-- A state from which the next step is no fatal error. -/
def State.StepSafe (s : State) : Prop := ∃ t, step s = .next t

/-! ## The flag formulas over integers (R38, R39, R171 to R173) -/

/-- R39: the number of 1 bits of a byte is even. -/
def evenOnes (b : Nat) : Bool := ((List.range 8).filter (fun k => b.testBit k)).length % 2 == 0

/-- R38: ZF, SF and PF from a w-bit result. -/
def SzpRule (w r : Nat) (f : Flags) : Prop :=
  f.zf = decide (r = 0) ∧ f.sf = decide (r &&& 2 ^ (w - 1) ≠ 0) ∧ f.pf = evenOnes (r &&& 0xFF)

/-- R171: the result and the flags of an addition. -/
def AddRule (w l r cin res : Nat) (f : Flags) : Prop :=
  res = (l + r + cin) % 2 ^ w ∧ f.cf = decide (2 ^ w - 1 < l + r + cin) ∧ f.af = decide ((l ^^^ r ^^^ res) &&& 0x10 ≠ 0)
    ∧ f.of = decide ((l ^^^ res) &&& (r ^^^ res) &&& 2 ^ (w - 1) ≠ 0) ∧ SzpRule w res f

/-- R172: the result and the flags of a subtraction. -/
def SubRule (w l r bin res : Nat) (f : Flags) : Prop :=
  (res : Int) = ((l : Int) - r - bin) % 2 ^ w ∧ f.cf = decide ((l : Int) - r - bin < 0)
    ∧ f.af = decide ((l ^^^ r ^^^ res) &&& 0x10 ≠ 0)
    ∧ f.of = decide ((l ^^^ r) &&& (l ^^^ res) &&& 2 ^ (w - 1) ≠ 0) ∧ SzpRule w res f

/-- R173: the flags of a logic operation with result `res`. -/
def LogicRule (w res : Nat) (f : Flags) : Prop := f.cf = false ∧ f.af = false ∧ f.of = false ∧ SzpRule w res f

/-- R170: `Alu(w, op, l, r)` with carry flag `cf` gives `res` and the flags `f`. -/
def AluRule (w : Nat) (op : AluOp) (l r : Nat) (cf : Bool) (res : Nat) (f : Flags) : Prop :=
  match op with
  | .add => AddRule w l r 0 res f
  | .or => res = l ||| r ∧ LogicRule w res f
  | .adc => AddRule w l r cf.toNat res f
  | .sbb => SubRule w l r cf.toNat res f
  | .and => res = l &&& r ∧ LogicRule w res f
  | .sub => SubRule w l r 0 res f
  | .xor => res = l ^^^ r ∧ LogicRule w res f
  | .cmp => SubRule w l r 0 res f

/-! ## The one-bit shift steps over integers (R246 to R252) -/

/-- The step of an operation on a w-bit number and CF. -/
def bitStep (w : Nat) (op : ShiftOp) (p : Nat × Bool) : Nat × Bool :=
  let m := p.1.testBit (w - 1)
  let l := p.1.testBit 0
  match op with
  | .rol => (((p.1 <<< 1) ||| m.toNat) &&& (2 ^ w - 1), m)
  | .ror => ((p.1 >>> 1) ||| (l.toNat <<< (w - 1)), l)
  | .rcl => (((p.1 <<< 1) ||| p.2.toNat) &&& (2 ^ w - 1), m)
  | .rcr => ((p.1 >>> 1) ||| (p.2.toNat <<< (w - 1)), l)
  | .shl => ((p.1 <<< 1) &&& (2 ^ w - 1), m)
  | .shr => (p.1 >>> 1, l)
  | .sar => ((p.1 >>> 1) ||| (p.1 &&& 2 ^ (w - 1)), l)

/-- The one-bit OF formula of an operation from the final operand and the final CF (R246 to R252). -/
def bitOf (w : Nat) (op : ShiftOp) (x : Nat) (cf : Bool) : Bool :=
  match op with
  | .rol | .rcl | .shl => x.testBit (w - 1) ^^ cf
  | .ror | .rcr | .shr | .sar => x.testBit (w - 1) ^^ x.testBit (w - 2)

/-- R245 for a count n of at least 1 on operand `x`: the result `res` and the flags `f`, the draws being those of state `s`. -/
def ShiftRule (w : Nat) (op : ShiftOp) (n x : Nat) (s : State) (res : Nat) (f : Flags) : Prop :=
  (res, f.cf) = (bitStep w op)^[n] (x, s.flags.cf)
    ∧ f.of = (if n = 1 then bitOf w op res f.cf else s.draw 0)
    ∧ f.other = s.flags.other
    ∧ (match op with
      | .rol | .ror | .rcl | .rcr => f.pf = s.flags.pf ∧ f.af = s.flags.af ∧ f.zf = s.flags.zf ∧ f.sf = s.flags.sf
      | .shl | .shr | .sar => SzpRule w res f ∧ f.af = (if n = 1 then s.draw 0 else s.draw 1))

/-! ## Everything an instruction changes -/

/-- The registers, the byte stores in order, the port events and the number of draws of an instruction. What the record does not
name (hooks, parameters, decode context, Halt signal) does not change; the flags are stated beside it. -/
structure Changes where
  gpr : Gpr
  seg : Segs
  ip : Word
  stores : List (Nat × Byte)
  ports : List Event
  draws : Nat

/-- Nothing changes. -/
def Changes.keep (s : State) : Changes where
  gpr := s.gpr
  seg := s.seg
  ip := s.ip
  stores := []
  ports := []
  draws := 0

/-- The events of one byte store: a hooked page below 256 has one (R65, R79). -/
def hookOf (s : State) (p : Nat × Byte) : List Event :=
  if s.hooks.any (fun h => h.val == p.1 / 4096) then [.hookWrite (p.1 / 4096) p.1 p.2] else []

/-- What byte `a` holds after the stores: the last one stored there, else what it held before. -/
def byteAfter (s : State) (stores : List (Nat × Byte)) (a : Nat) : Byte :=
  ((stores.reverse.find? (fun p => p.1 % s.ramSize == a % s.ramSize)).map (fun p => p.2)).getD (s.readByte a)

/-- State `t` is state `s` with exactly the changes `c`, flags apart. -/
structure Changed (c : Changes) (s t : State) : Prop where
  gpr : t.gpr = c.gpr
  seg : t.seg = c.seg
  ip : t.ip = c.ip
  mem : ∀ a, t.readByte a = byteAfter s c.stores a
  events : t.events = s.events ++ c.stores.flatMap (hookOf s) ++ c.ports
  draws : t.drawCount = s.drawCount + c.draws
  ports : t.portCount = s.portCount + c.ports.length
  ctx : t.ctx = s.ctx
  halt : t.halt = s.halt
  hooks : t.hooks = s.hooks
  cfg : t.cfg = s.cfg

/-- R24: byte register `r` written, the other half of its word kept. -/
def put8 (g : Gpr) (r : Reg8) (v : Byte) : Gpr :=
  if isHighHalf r then g.set (byteParent r) ((g.get (byteParent r) &&& 0x00FF#16) ||| (v.setWidth 16 <<< 8))
  else g.set (byteParent r) ((g.get (byteParent r) &&& 0xFF00#16) ||| v.setWidth 16)

/-- R71: the two byte stores of a word, low byte first. -/
def wordStores (arch : Arch) (seg off v : Word) : List (Nat × Byte) :=
  [(translate seg off.toNat, loByte v), (highByteAddr arch seg off, hiByte v)]

/-- R148: the changes with a byte operand written. -/
def Changes.putE8 (c : Changes) (o : Operand Reg8) (v : Byte) : Changes :=
  match o with
  | .register r => { c with gpr := put8 c.gpr r v }
  | .memory seg off => { c with stores := c.stores ++ [(translate seg off.toNat, v)] }

/-- R148: the changes with a word operand written. -/
def Changes.putE16 (c : Changes) (arch : Arch) (o : Operand Reg16) (v : Word) : Changes :=
  match o with
  | .register r => { c with gpr := c.gpr.set r v }
  | .memory seg off => { c with stores := c.stores ++ wordStores arch seg off v }

/-- R340: the changes with a word pushed. -/
def Changes.push (c : Changes) (arch : Arch) (v : Word) : Changes :=
  { c with gpr := c.gpr.set .sp (c.gpr.sp - 2), stores := c.stores ++ wordStores arch c.seg.ss (c.gpr.sp - 2) v }

/-- R66: the word at physical address `a` after the stores. -/
def wordAfter (s : State) (stores : List (Nat × Byte)) (a : Nat) : Word :=
  BitVec.ofNat 16 ((byteAfter s stores a).toNat + 256 * (byteAfter s stores (a + 1)).toNat)

/-- R506: the changes of an interrupt entry through vector `n`. -/
def interruptChanges (s : State) (n : Nat) : Changes :=
  let p := (((Changes.keep s).push s.cfg.arch s.flags.pack).push s.cfg.arch s.seg.cs).push s.cfg.arch s.ip
  { p with ip := wordAfter s p.stores (n * 4), seg := { s.seg with cs := wordAfter s p.stores (n * 4 + 2) } }

/-- R506: the flags after an interrupt entry: TF and IF are 0, every other bit is as it was. -/
def interruptFlags (f : Flags) : Flags := { f with other := f.other &&& ~~~0x0300#16 }

/-- The k-th word up from the top of the stack, as k pops read it (R341). -/
def stackWord (s : State) (k : Nat) : Word := s.read16 s.seg.ss (s.gpr.sp + BitVec.ofNat 16 (2 * k))

/-- The outcome with the decode context of its next state replaced. -/
def withCtx (c : DecodeCtx) : Result → Result
  | .next t => .next (t.setCtx c)
  | .fault f => .fault f
  | .refused r => .refused r

end Sys2Proof.Machine
end

