-- ==== Sys2Proof/Certificates/Slice0/Obligations.lean ====
section
/-! DEFINITION. The statements about the core, from the numbered rules of spec/. Each says for every state, every operand form and
every parameter what holds; a statement that an instruction completes says the whole next state: its flags, and beside them
everything else through `Changed`. -/

open Sys2Proof Sys2Proof.Machine

/-! ## Lists of constructors the statements range over -/

namespace Sys2Proof.Claims

/-- The eight operations in form `Eb,Gb`. -/
def opsEbGb : List (AluOp × (Rm Reg8 → Reg8 → Instr)) :=
  [(.add, .addEbGb), (.or, .orEbGb), (.adc, .adcEbGb), (.sbb, .sbbEbGb), (.and, .andEbGb), (.sub, .subEbGb), (.xor, .xorEbGb),
    (.cmp, .cmpEbGb)]

/-- Form `Ev,Gv`. -/
def opsEvGv : List (AluOp × (Rm Reg16 → Reg16 → Instr)) :=
  [(.add, .addEvGv), (.or, .orEvGv), (.adc, .adcEvGv), (.sbb, .sbbEvGv), (.and, .andEvGv), (.sub, .subEvGv), (.xor, .xorEvGv),
    (.cmp, .cmpEvGv)]

/-- Form `Gb,Eb`. -/
def opsGbEb : List (AluOp × (Reg8 → Rm Reg8 → Instr)) :=
  [(.add, .addGbEb), (.or, .orGbEb), (.adc, .adcGbEb), (.sbb, .sbbGbEb), (.and, .andGbEb), (.sub, .subGbEb), (.xor, .xorGbEb),
    (.cmp, .cmpGbEb)]

/-- Form `Gv,Ev`. -/
def opsGvEv : List (AluOp × (Reg16 → Rm Reg16 → Instr)) :=
  [(.add, .addGvEv), (.or, .orGvEv), (.adc, .adcGvEv), (.sbb, .sbbGvEv), (.and, .andGvEv), (.sub, .subGvEv), (.xor, .xorGvEv),
    (.cmp, .cmpGvEv)]

/-- Form `AL,Ib`. -/
def opsAlIb : List (AluOp × (Byte → Instr)) :=
  [(.add, .addAlIb), (.or, .orAlIb), (.adc, .adcAlIb), (.sbb, .sbbAlIb), (.and, .andAlIb), (.sub, .subAlIb), (.xor, .xorAlIb),
    (.cmp, .cmpAlIb)]

/-- Form `AX,Iv`. -/
def opsAxIv : List (AluOp × (Word → Instr)) :=
  [(.add, .addAxIv), (.or, .orAxIv), (.adc, .adcAxIv), (.sbb, .sbbAxIv), (.and, .andAxIv), (.sub, .subAxIv), (.xor, .xorAxIv),
    (.cmp, .cmpAxIv)]

/-- Group 1 `Eb,Ib`, opcodes 0x80 and 0x82. -/
def opsEbIb : List (AluOp × (Rm Reg8 → Byte → Instr)) :=
  [(.add, .addEbIb), (.or, .orEbIb), (.adc, .adcEbIb), (.sbb, .sbbEbIb), (.and, .andEbIb), (.sub, .subEbIb), (.xor, .xorEbIb),
    (.cmp, .cmpEbIb), (.add, .addEbIb82), (.or, .orEbIb82), (.adc, .adcEbIb82), (.sbb, .sbbEbIb82), (.and, .andEbIb82),
    (.sub, .subEbIb82), (.xor, .xorEbIb82), (.cmp, .cmpEbIb82)]

/-- Group 1 `Ev,Iv`. -/
def opsEvIv : List (AluOp × (Rm Reg16 → Word → Instr)) :=
  [(.add, .addEvIv), (.or, .orEvIv), (.adc, .adcEvIv), (.sbb, .sbbEvIv), (.and, .andEvIv), (.sub, .subEvIv), (.xor, .xorEvIv),
    (.cmp, .cmpEvIv)]

/-- Group 1 `Ev,Ibs`. -/
def opsEvIbs : List (AluOp × (Rm Reg16 → Byte → Instr)) :=
  [(.add, .addEvIbs), (.or, .orEvIbs), (.adc, .adcEvIbs), (.sbb, .sbbEvIbs), (.and, .andEvIbs), (.sub, .subEvIbs), (.xor, .xorEvIbs),
    (.cmp, .cmpEvIbs)]

/-- Group 2 on a byte by 1. -/
def turnsEb1 : List (ShiftOp × (Rm Reg8 → Instr)) :=
  [(.rol, .rolEb1), (.ror, .rorEb1), (.rcl, .rclEb1), (.rcr, .rcrEb1), (.shl, .shlEb1), (.shr, .shrEb1), (.sar, .sarEb1)]

/-- Group 2 on a word by 1. -/
def turnsEv1 : List (ShiftOp × (Rm Reg16 → Instr)) :=
  [(.rol, .rolEv1), (.ror, .rorEv1), (.rcl, .rclEv1), (.rcr, .rcrEv1), (.shl, .shlEv1), (.shr, .shrEv1), (.sar, .sarEv1)]

/-- Group 2 on a byte by CL. -/
def turnsEbCl : List (ShiftOp × (Rm Reg8 → Instr)) :=
  [(.rol, .rolEbCl), (.ror, .rorEbCl), (.rcl, .rclEbCl), (.rcr, .rcrEbCl), (.shl, .shlEbCl), (.shr, .shrEbCl), (.sar, .sarEbCl)]

/-- Group 2 on a word by CL. -/
def turnsEvCl : List (ShiftOp × (Rm Reg16 → Instr)) :=
  [(.rol, .rolEvCl), (.ror, .rorEvCl), (.rcl, .rclEvCl), (.rcr, .rcrEvCl), (.shl, .shlEvCl), (.shr, .shrEvCl), (.sar, .sarEvCl)]

/-- The sixteen conditional jumps and when each is taken (the table of R402). -/
def jumps : List (Byte × (Byte → Instr) × (Flags → Bool)) :=
  [(0x70, .jo, fun f => f.of = true), (0x71, .jno, fun f => f.of = false), (0x72, .jb, fun f => f.cf = true), (0x73, .jnb, fun f => f.cf = false),
    (0x74, .je, fun f => f.zf = true), (0x75, .jne, fun f => f.zf = false), (0x76, .jbe, fun f => f.cf = true ∨ f.zf = true),
    (0x77, .jnbe, fun f => f.cf = false ∧ f.zf = false), (0x78, .js, fun f => f.sf = true), (0x79, .jns, fun f => f.sf = false),
    (0x7A, .jp, fun f => f.pf = true), (0x7B, .jnp, fun f => f.pf = false), (0x7C, .jl, fun f => f.sf ≠ f.of), (0x7D, .jnl, fun f => f.sf = f.of),
    (0x7E, .jle, fun f => f.zf = true ∨ f.sf ≠ f.of), (0x7F, .jnle, fun f => f.zf = false ∧ f.sf = f.of)]

/-- The one-byte pushes and the word each stores (R342, R345, R348); PUSH SP is not among them. -/
def pushes : List (Byte × Instr × (State → Word)) :=
  [(0x50, .pushAx, fun s => s.gpr.ax), (0x51, .pushCx, fun s => s.gpr.cx), (0x52, .pushDx, fun s => s.gpr.dx), (0x53, .pushBx, fun s => s.gpr.bx),
    (0x55, .pushBp, fun s => s.gpr.bp), (0x56, .pushSi, fun s => s.gpr.si), (0x57, .pushDi, fun s => s.gpr.di), (0x06, .pushEs, fun s => s.seg.es),
    (0x0E, .pushCs, fun s => s.seg.cs), (0x16, .pushSs, fun s => s.seg.ss), (0x1E, .pushDs, fun s => s.seg.ds), (0x9C, .pushf, fun s => s.flags.pack)]

/-- The tier 2 instructions of R116. -/
def tierTwo : Instr → Bool
  | .testEbGb _ _ | .testEvGv _ _ | .testAlIb _ | .testAxIv _ | .testEbIb _ _ | .testEvIv _ _ => true
  | .incR16 _ | .incEb _ | .incEv _ | .decR16 _ | .decEb _ | .decEv _ | .notEb _ | .notEv _ | .negEb _ | .negEv _ => true
  | .xchgEbGb _ _ | .xchgEvGv _ _ | .xchgAxCx | .xchgAxDx | .xchgAxBx | .xchgAxSp | .xchgAxBp | .xchgAxSi | .xchgAxDi => true
  | .nop | .pushEv _ | .popEv _ | .cbw | .cwd | .lesGvMp _ _ | .ldsGvMp _ _ | .aam _ | .aad _ | .xlat => true
  | _ => false

/-- The two constructors of the rows named (none): no instruction (R117, R118, R120 to R122). -/
def selectsNone : Instr → Bool
  | .unimplementedOpcode _ | .invalidOperandEncoding _ _ => true
  | _ => false

/-- The ten string instructions. -/
def strings : List Instr := [.movsb, .movsw, .cmpsb, .cmpsw, .stosb, .stosw, .lodsb, .lodsw, .scasb, .scasw]

/-- CMPS and SCAS. -/
def comparing (i : Instr) : Bool := i = .cmpsb ∨ i = .cmpsw ∨ i = .scasb ∨ i = .scasw

/-- The instructions that may write the opaque part of FLAGS, TF, IF and DF among it (R36): the four single-flag ones, the two flag
loads, and every instruction that can enter an interrupt. -/
def writesOpaque : Instr → Bool
  | .cli | .sti | .cld | .std | .popf | .iret | .int3 | .intIb _ | .into => true
  | .divEb _ | .divEv _ | .idivEb _ | .idivEv _ | .aam _ => true
  | _ => false

/-- The instructions that may write CS (R29): far transfers, MOV Sw with reg = 1, and interrupt entry and return. -/
def writesCs : Instr → Bool
  | .jmpFar _ _ | .jmpMp _ | .callFar _ _ | .callMp _ | .retFar | .retFarIw _ | .iret | .int3 | .intIb _ | .into => true
  | .divEb _ | .divEv _ | .idivEb _ | .idivEv _ | .aam _ => true
  | .movSwEw sr _ => sr = .cs
  | _ => false

/-- The prefix bytes' effect on the decode context (the table of R105). -/
def recorded (c : DecodeCtx) : Instr → DecodeCtx
  | .prefixEs => { c with override := some .es }
  | .prefixCs => { c with override := some .cs }
  | .prefixSs => { c with override := some .ss }
  | .prefixDs => { c with override := some .ds }
  | .repnz => { c with rep := some .repnz }
  | .repz => { c with rep := some .repz }
  | .lockF0 | .lockF1 => { c with lock := true }
  | _ => c

/-- The 31 opcode bytes of R117. -/
def noInstruction : List Byte :=
  [0x0F, 0x60, 0x61, 0x62, 0x63, 0x64, 0x65, 0x66, 0x67, 0x68, 0x69, 0x6A, 0x6B, 0x6C, 0x6D, 0x6E, 0x6F, 0x9B, 0xC0, 0xC1, 0xC8, 0xC9,
    0xD6, 0xD8, 0xD9, 0xDA, 0xDB, 0xDC, 0xDD, 0xDE, 0xDF]

/-- The table of R502: opcode byte, mod, reg. -/
def malformed (op mod reg : Nat) : Prop :=
  (op = 0x8D ∧ mod = 3) ∨ ((op = 0xC4 ∨ op = 0xC5) ∧ mod = 3) ∨ (op = 0xFF ∧ (reg = 3 ∨ reg = 5) ∧ mod = 3)
    ∨ ((op = 0x8C ∨ op = 0x8E) ∧ reg ≥ 4) ∨ (op = 0x8F ∧ reg ≠ 0) ∨ ((op = 0xC6 ∨ op = 0xC7) ∧ reg ≠ 0)
    ∨ ((op = 0xD0 ∨ op = 0xD1 ∨ op = 0xD2 ∨ op = 0xD3) ∧ reg = 6) ∨ ((op = 0xF6 ∨ op = 0xF7) ∧ reg = 1)
    ∨ (op = 0xFE ∧ reg ≥ 2) ∨ (op = 0xFF ∧ reg = 7)

/-- The byte registers by their index (R23). -/
def byteRegs : List Reg8 := [.al, .cl, .dl, .bl, .ah, .ch, .dh, .bh]

/-- The general registers by their index (R21). -/
def wordRegs : List Reg16 := [.ax, .cx, .dx, .bx, .sp, .bp, .si, .di]

/-- The table of R143 and R112: the memory form that mod (0 to 2), rm and the displacement bytes select. -/
def memBytes (mod rm : Nat) (disp : List Byte) (m : MemRef) : Prop :=
  ∃ b, [Base.bxSi, .bxDi, .bpSi, .bpDi, .si, .di, .bp, .bx][rm]? = some b ∧
    ((mod = 0 ∧ rm ≠ 6 ∧ disp = [] ∧ m = .based b .none)
      ∨ (mod = 0 ∧ rm = 6 ∧ ∃ lo hi : Byte, disp = [lo, hi] ∧ m = .direct (hi ++ lo))
      ∨ (mod = 1 ∧ ∃ d, disp = [d] ∧ m = .based b (.d8 d))
      ∨ (mod = 2 ∧ ∃ lo hi : Byte, disp = [lo, hi] ∧ m = .based b (.d16 (hi ++ lo))))

/-- The ModR/M byte with its three fields (R111) and the displacement bytes, for a memory operand. -/
def memOperandBytes (reg : Nat) (m : MemRef) (bs : List Byte) : Prop :=
  ∃ mod rm disp, memBytes mod rm disp m ∧ bs = BitVec.ofNat 8 (mod * 64 + reg * 8 + rm) :: disp

/-- The same for an `E` operand, mod = 3 selecting a register. -/
def operandBytes {ρ : Type} (regs : List ρ) (reg : Nat) (e : Rm ρ) (bs : List Byte) : Prop :=
  (∃ rm r, regs[rm]? = some r ∧ e = .reg r ∧ bs = [BitVec.ofNat 8 (3 * 64 + reg * 8 + rm)])
    ∨ ∃ m, e = .mem m ∧ memOperandBytes reg m bs

/-- The reg field of each shift and rotate, in the order of the lists above (R119). -/
def turnFields : List Nat := [0, 1, 2, 3, 4, 5, 7]

/-- R119, byte operand alone: opcode byte, reg field, instruction. -/
def groupEb : List (Byte × Nat × (Rm Reg8 → Instr)) :=
  (turnFields.zip turnsEb1).map (fun p => (0xD0, p.1, p.2.2)) ++ (turnFields.zip turnsEbCl).map (fun p => (0xD2, p.1, p.2.2))
    ++ [(0xF6, 2, .notEb), (0xF6, 3, .negEb), (0xF6, 4, .mulEb), (0xF6, 5, .imulEb), (0xF6, 6, .divEb), (0xF6, 7, .idivEb), (0xFE, 0, .incEb),
      (0xFE, 1, .decEb)]

/-- R119, word operand alone. -/
def groupEv : List (Byte × Nat × (Rm Reg16 → Instr)) :=
  (turnFields.zip turnsEv1).map (fun p => (0xD1, p.1, p.2.2)) ++ (turnFields.zip turnsEvCl).map (fun p => (0xD3, p.1, p.2.2))
    ++ [(0x8F, 0, .popEv), (0xF7, 2, .notEv), (0xF7, 3, .negEv), (0xF7, 4, .mulEv), (0xF7, 5, .imulEv), (0xF7, 6, .divEv), (0xF7, 7, .idivEv),
      (0xFF, 0, .incEv), (0xFF, 1, .decEv), (0xFF, 2, .callEv), (0xFF, 4, .jmpEv), (0xFF, 6, .pushEv)]

/-- R119, byte operand and byte immediate. -/
def groupEbIb : List (Byte × Nat × (Rm Reg8 → Byte → Instr)) :=
  ((List.range 8).zip (opsEbIb.take 8)).map (fun p => (0x80, p.1, p.2.2))
    ++ ((List.range 8).zip (opsEbIb.drop 8)).map (fun p => (0x82, p.1, p.2.2)) ++ [(0xC6, 0, .movEbIb), (0xF6, 0, .testEbIb)]

/-- R119, word operand and word immediate. -/
def groupEvIv : List (Byte × Nat × (Rm Reg16 → Word → Instr)) :=
  ((List.range 8).zip opsEvIv).map (fun p => (0x81, p.1, p.2.2)) ++ [(0xC7, 0, .movEvIv), (0xF7, 0, .testEvIv)]

/-- R119, word operand and sign-extended byte immediate. -/
def groupEvIbs : List (Byte × Nat × (Rm Reg16 → Byte → Instr)) :=
  ((List.range 8).zip opsEvIbs).map (fun p => (0x83, p.1, p.2.2))

/-- The base and index registers of each memory form, added without wrapping (the table of R143). -/
def baseRegisters (s : State) : Base → Nat
  | .bxSi => s.gpr.bx.toNat + s.gpr.si.toNat
  | .bxDi => s.gpr.bx.toNat + s.gpr.di.toNat
  | .bpSi => s.gpr.bp.toNat + s.gpr.si.toNat
  | .bpDi => s.gpr.bp.toNat + s.gpr.di.toNat
  | .si => s.gpr.si.toNat
  | .di => s.gpr.di.toNat
  | .bp => s.gpr.bp.toNat
  | .bx => s.gpr.bx.toNat

/-- One binary ALU instruction on a byte destination, completely. -/
def AluByte (op : AluOp) (i : Instr) (dst : Operand Reg8) (r : Byte) (s : State) : Prop :=
  ∃ (t : State) (res : Byte), exec i s = .next t
    ∧ AluRule 8 op (s.readE8 dst).toNat r.toNat s.flags.cf res.toNat t.flags ∧ t.flags.other = s.flags.other
    ∧ Changed (if op = .cmp then Changes.keep s else (Changes.keep s).putE8 dst res) s t

/-- One binary ALU instruction on a word destination, completely. -/
def AluWord (op : AluOp) (i : Instr) (dst : Operand Reg16) (r : Word) (s : State) : Prop :=
  ∃ (t : State) (res : Word), exec i s = .next t
    ∧ AluRule 16 op (s.readE16 dst).toNat r.toNat s.flags.cf res.toNat t.flags ∧ t.flags.other = s.flags.other
    ∧ Changed (if op = .cmp then Changes.keep s else (Changes.keep s).putE16 s.cfg.arch dst res) s t

/-- A TEST: the flags of the AND, nothing else. -/
def TestOf (w : Nat) (i : Instr) (l r : Nat) (s : State) : Prop :=
  ∃ t, exec i s = .next t ∧ LogicRule w (l &&& r) t.flags ∧ t.flags.other = s.flags.other ∧ Changed (Changes.keep s) s t

/-- A shift or rotate of a byte operand by an effective count of at least 1. -/
def ShiftByte (op : ShiftOp) (n : Nat) (i : Instr) (dst : Operand Reg8) (s : State) : Prop :=
  ∃ (t : State) (res : Byte), exec i s = .next t ∧ ShiftRule 8 op n (s.readE8 dst).toNat s res.toNat t.flags
    ∧ Changed { (Changes.keep s).putE8 dst res with draws := shiftDraws op n } s t

/-- A shift or rotate of a word operand by an effective count of at least 1. -/
def ShiftWord (op : ShiftOp) (n : Nat) (i : Instr) (dst : Operand Reg16) (s : State) : Prop :=
  ∃ (t : State) (res : Word), exec i s = .next t ∧ ShiftRule 16 op n (s.readE16 dst).toNat s res.toNat t.flags
    ∧ Changed { (Changes.keep s).putE16 s.cfg.arch dst res with draws := shiftDraws op n } s t

/-- An instruction that enters the interrupt of vector `n` and does nothing else. -/
def Enters (n : Nat) (i : Instr) (s : State) : Prop :=
  ∃ t, exec i s = .next t ∧ Changed (interruptChanges s n) s t ∧ t.flags = interruptFlags s.flags

/-- An instruction that completes with the changes `c` and no flag written. -/
def Completes (i : Instr) (c : State → Changes) (s : State) : Prop :=
  ∃ t, exec i s = .next t ∧ Changed (c s) s t ∧ t.flags = s.flags

end Sys2Proof.Claims

open Sys2Proof.Claims

/-! ## Encoding and decoding (30_encoding.md) -/

/-- Words written out from the spec's encodings decode to the instructions they stand for (R180, R188, R192, R222, R241, R275, R307,
R308, R310, R314, R344, R376, R402, R413, R470, R105). -/
def Obligations.WrittenWordsDecode : Prop :=
  decode [0x01, 0xD8] = .ok (.addEvGv (.reg .ax) .bx, [])
    ∧ decode [0x81, 0x86, 0x34, 0x12, 0x78, 0x56] = .ok (.addEvIv (.mem (.based .bp (.d16 0x1234))) 0x5678, [])
    ∧ decode [0x83, 0xC3, 0xFF] = .ok (.addEvIbs (.reg .bx) 0xFF, [])
    ∧ decode [0x4B] = .ok (.decR16 .bx, [])
    ∧ decode [0x27] = .ok (.daa, [])
    ∧ decode [0xD3, 0xE8] = .ok (.shrEvCl (.reg .ax), [])
    ∧ decode [0xF7, 0x36, 0x00, 0x20] = .ok (.divEv (.mem (.direct 0x2000)), [])
    ∧ decode [0xB8, 0x34, 0x12] = .ok (.movR16Iv .ax 0x1234, [])
    ∧ decode [0x8D, 0x40, 0x10] = .ok (.leaGvM .ax (.based .bxSi (.d8 0x10)), [])
    ∧ decode [0x5C] = .ok (.popR16 .sp, [])
    ∧ decode [0xA4] = .ok (.movsb, [])
    ∧ decode [0x7F, 0x7F] = .ok (.jnle 0x7F, [])
    ∧ decode [0x9A, 0x78, 0x56, 0x34, 0x12] = .ok (.callFar 0x5678 0x1234, [])
    ∧ decode [0xCD, 0x21] = .ok (.intIb 0x21, [])
    ∧ decode [0xF3] = .ok (.repz, [])

/-- Decoding the encoding of a well-formed instruction gives it back, with every operand at every value its encoding admits, and
leaves the bytes after it (R100, R111, R112, R113, R115, R119). -/
def Obligations.DecodeOfEncode : Prop :=
  ∀ (i : Instr) (rest : List Byte), i.wf = true → decode (encode i ++ rest) = .ok (i, rest)

/-- Whatever the decoder reads is a well-formed instruction, and the bytes it took are exactly its encoding: no encoding is
dropped or shared (R123, R124, R127). -/
def Obligations.EncodeOfDecode : Prop :=
  ∀ (bs rest : List Byte) (i : Instr), decode bs = .ok (i, rest) → i.wf = true ∧ encode i ++ rest = bs

/-- R111, R112, R119, R143: how the bytes of a ModR/M operand are read, for every form, shown on MOV `Gb,Eb` and `Gv,Ev`; and which
instruction each group opcode and reg field select, with every operand form, the immediate after the displacement. -/
def Obligations.OperandAndGroupDecoding : Prop :=
  ∀ (bs : List Byte) (b : List Byte) (reg : Nat),
    (∀ e r, byteRegs[reg]? = some r → operandBytes byteRegs reg e b → decode (0x8A :: b ++ bs) = .ok (.movGbEb r e, bs))
    ∧ (∀ e r, wordRegs[reg]? = some r → operandBytes wordRegs reg e b → decode (0x8B :: b ++ bs) = .ok (.movGvEv r e, bs))
    ∧ (∀ op i, (op, reg, i) ∈ groupEb → ∀ e, operandBytes byteRegs reg e b → decode (op :: b ++ bs) = .ok (i e, bs))
    ∧ (∀ op i, (op, reg, i) ∈ groupEv → ∀ e, operandBytes wordRegs reg e b → decode (op :: b ++ bs) = .ok (i e, bs))
    ∧ (∀ op i, (op, reg, i) ∈ groupEbIb → ∀ e imm, operandBytes byteRegs reg e b →
      decode (op :: b ++ imm :: bs) = .ok (i e imm, bs))
    ∧ (∀ op i, (op, reg, i) ∈ groupEvIv → ∀ e (lo hi : Byte), operandBytes wordRegs reg e b →
      decode (op :: b ++ lo :: hi :: bs) = .ok (i e (hi ++ lo), bs))
    ∧ (∀ op i, (op, reg, i) ∈ groupEvIbs → ∀ e imm, operandBytes wordRegs reg e b →
      decode (op :: b ++ imm :: bs) = .ok (i e imm, bs))
    ∧ ∀ m, memOperandBytes reg m b →
      (reg = 3 → decode (0xFF :: b ++ bs) = .ok (.callMp m, bs)) ∧ (reg = 5 → decode (0xFF :: b ++ bs) = .ok (.jmpMp m, bs))

/-- R117, R501: exactly 31 byte values select no instruction, whatever follows them; behind any prefixes such a byte is fatal, and the
report is the byte, CS and the offset at which that byte (not the first prefix) was fetched. -/
def Obligations.BytesThatSelectNoInstruction : Prop :=
  noInstruction.length = 31 ∧ noInstruction.Nodup
    ∧ (∀ (op : Byte) (bs : List Byte), 5 ≤ bs.length →
      ((∃ b rest, decode (op :: bs) = .ok (.unimplementedOpcode b, rest)) ↔ op ∈ noInstruction))
    ∧ (∀ (op : Byte) (s : State), exec (.unimplementedOpcode op) s = .fault (.unimplementedOpcode op s.seg.cs s.ctx.opIp))
    ∧ ∀ (s : State) (ps : List Instr) (op : Byte), (∀ p ∈ ps, p.isPrefix = true) → ps.length < 65536 → op ∈ noInstruction →
      s.fetchWindow (ps.length + 1) = ps.flatMap encode ++ [op] →
      step s = .fault (.unimplementedOpcode op s.seg.cs (s.ip + BitVec.ofNat 16 ps.length))

/-- R502: the malformed combinations are exactly those of its table; the report is the opcode byte, the ModR/M byte, CS and the
offset of the opcode byte; where the opcode is wholly tier 2 and STRICT_SOURCE_SET is true the error is UnimplementedOpcode. -/
def Obligations.MalformedEncodingsAreFatal : Prop :=
  (∀ (op m : Byte) (bs : List Byte), 4 ≤ bs.length →
    ((∃ a b rest, decode (op :: m :: bs) = .ok (.invalidOperandEncoding a b, rest))
      ↔ malformed op.toNat (m.toNat / 64) (m.toNat / 8 % 8)))
    ∧ (∀ (op m : Byte) (bs rest : List Byte) (a b : Byte),
      decode (op :: m :: bs) = .ok (.invalidOperandEncoding a b, rest) → a = op ∧ b = m)
    ∧ ∀ (op m : Byte) (s : State), exec (.invalidOperandEncoding op m) s =
      if s.cfg.strictSourceSet = true ∧ (op = 0x8F ∨ op = 0xC4 ∨ op = 0xC5 ∨ op = 0xFE)
      then .fault (.unimplementedOpcode op s.seg.cs s.ctx.opIp)
      else .fault (.invalidOperandEncoding op m s.seg.cs s.ctx.opIp)

/-! ## The step (R104, R106, R560) -/

/-- A step runs the decoded instruction: when the bytes at CS:IP decode to an instruction that is no prefix, the step is `exec` of it
on the state whose IP is past its bytes and whose decode context holds only the offset of the opcode byte; afterwards the context
is clear (R30, R48, R104). The k-th of the bytes is the one at Translate(CS, (IP + k) mod 0x10000), in both modes (R31, R102, R103). -/
def Obligations.StepRunsTheDecodedInstruction : Prop :=
  (∀ (s : State) (n : Nat), (s.fetchWindow n).length = n ∧ ∀ k, k < n →
    (s.fetchWindow n)[k]? = some (s.readByte (((s.seg.cs.toNat <<< 4) + (s.ip.toNat + k) % 0x10000) &&& 0xFFFFF)))
  ∧ ∀ (s : State) (i : Instr) (rest : List Byte), decode (s.fetchWindow 6) = .ok (i, rest) → i.isPrefix = false →
    step s = withCtx DecodeCtx.clear (exec i { s with
      ip := s.ip + BitVec.ofNat 16 (6 - rest.length)
      ctx := { DecodeCtx.clear with opIp := s.ip }
      halt := false })

/-- R104, R106, R107: any number of prefixes, in any order, and the instruction after them are one step; each prefix writes its own
field of the decode context, so the last of each kind counts, and IP passes all of them. -/
def Obligations.PrefixesAndInstructionAreOneStep : Prop :=
  ∀ (s : State) (ps : List Instr) (i : Instr), (∀ p ∈ ps, p.isPrefix = true) → ps.length < 65536 → i.isPrefix = false →
    i.wf = true → s.fetchWindow (ps.length + (encode i).length) = ps.flatMap encode ++ encode i →
    step s = withCtx DecodeCtx.clear (exec i { s with
      ip := s.ip + BitVec.ofNat 16 (ps.length + (encode i).length)
      ctx := { ps.foldl recorded DecodeCtx.clear with opIp := s.ip + BitVec.ofNat 16 ps.length }
      halt := false })

/-- R110: when every one of the 65,536 bytes from CS:IP on is a prefix byte, the step never completes; the model shows this as its
own fault `prefixLoopNeverEnds` (log 10). -/
def Obligations.PrefixOnlySegmentNeverCompletes : Prop :=
  ∀ s : State, (∀ b ∈ s.fetchWindow 65536, b ∈ ([0x26, 0x2E, 0x36, 0x3E, 0xF0, 0xF1, 0xF2, 0xF3] : List Byte)) →
    step s = .fault .prefixLoopNeverEnds

/-- R116: under STRICT_SOURCE_SET every tier 2 instruction raises UnimplementedOpcode with its opcode byte. -/
def Obligations.TierTwoUnderStrictSourceSet : Prop :=
  ∀ (i : Instr) (s : State), tierTwo i = true → s.cfg.strictSourceSet = true →
    exec i s = .fault (.unimplementedOpcode ((encode i).headD 0) s.seg.cs s.ctx.opIp)

/-- R500: nothing else stops. Every instruction completes in every state, but for the encodings that select no instruction and,
under STRICT_SOURCE_SET, the tier 2 instructions: no memory access, no transfer and no operand value ends a run. -/
def Obligations.NothingElseStops : Prop :=
  ∀ (i : Instr) (s : State),
    (∃ t, exec i s = .next t) ↔ (selectsNone i = false ∧ (tierTwo i = true → s.cfg.strictSourceSet = false))

/-- R105: each of the eight prefix bytes is an instruction term of its own that records itself in the decode context and changes nothing
else. -/
def Obligations.PrefixesRecordThemselves : Prop :=
  ∀ b i, (b, i) ∈ ([(0x26, .prefixEs), (0x2E, .prefixCs), (0x36, .prefixSs), (0x3E, .prefixDs), (0xF2, .repnz), (0xF3, .repz),
      (0xF0, .lockF0), (0xF1, .lockF1)] : List (Byte × Instr)) →
    (∀ rest, decode (b :: rest) = .ok (i, rest)) ∧ ∀ s : State, exec i s = .next { s with ctx := recorded s.ctx i }

/-! ## Whole-machine rules -/

/-- R50: the state invariant is kept by every step, from every state that has it. -/
def Obligations.StepKeepsInvariant : Prop := ∀ s t : State, s.Inv → step s = .next t → t.Inv

/-- R50: the state right after reset has the invariant (log 2 lists no byte of RAM there). -/
def Obligations.ResetStateHasInvariant : Prop := State.reset.Inv

/-- No step changes the parameters (R7), the hook table (R78), FS or GS (R28), or takes an event back (R560). -/
def Obligations.StepKeepsInstanceAndHistory : Prop :=
  ∀ s t : State, step s = .next t →
    t.cfg = s.cfg ∧ t.hooks = s.hooks ∧ t.seg.fs = s.seg.fs ∧ t.seg.gs = s.seg.gs ∧ ∃ l, t.events = s.events ++ l

/-- R36: no instruction but CLI, STI, CLD, STD, POPF, IRET and those that can enter an interrupt writes TF, IF, DF or any other
opaque bit of FLAGS. -/
def Obligations.OpaqueFlagBitsAreWrittenOnlyByTheirInstructions : Prop :=
  ∀ (i : Instr) (s t : State), exec i s = .next t → writesOpaque i = false → t.flags.other = s.flags.other

/-- R29: CS is written only by far transfers, MOV Sw with reg = 1, interrupt entry and IRET. -/
def Obligations.CodeSegmentIsWrittenOnlyByFarTransfers : Prop :=
  ∀ (i : Instr) (s t : State), exec i s = .next t → writesCs i = false → t.seg.cs = s.seg.cs

/-- R570: the Halt outcome is HLT's and no other instruction's. -/
def Obligations.OnlyHltHalts : Prop :=
  ∀ (i : Instr) (s t : State), s.halt = false → exec i s = .next t → (t.halt = true ↔ i = .hlt)

/-! ## Reset (R44, R45, R550) -/

/-- R44, R550: the reset input loads CS, IP and FLAGS, clears the decode context, and changes nothing else; the first instruction
after it is fetched from physical address 0xFFFF0. -/
def Obligations.ResetInputWritesOnlyItsRegisters : Prop :=
  ∀ s : State, s.resetInput = { s with
      seg := { s.seg with cs := 0xF000 }
      ip := 0xFFF0
      flags := Flags.unpack s.cfg.flagsReset
      ctx := { override := none, rep := none, lock := false, opIp := 0 } }
    ∧ s.resetInput.fetchAddr 0 = 0xFFFF0

/-- R45: with an admitted FLAGS_RESET all nine named flags are 0 after the reset input, and the other opaque bits are the
parameter's. -/
def Obligations.ResetClearsNamedFlags : Prop :=
  ∀ s : State, s.cfg.wf →
    let f := s.resetInput.flags
    f.cf = false ∧ f.pf = false ∧ f.af = false ∧ f.zf = false ∧ f.sf = false ∧ f.of = false
      ∧ f.other.getLsbD 8 = false ∧ f.other.getLsbD 9 = false ∧ f.other.getLsbD 10 = false ∧ f.pack = s.cfg.flagsReset

/-! ## Registers and memory (10_state.md, 20_memory.md) -/

/-- R24: a byte write changes its half of the word by the mask formula and no other register. -/
def Obligations.ByteRegisterWrite : Prop :=
  ∀ (s : State) (r : Reg8) (v : Byte), s.setReg8 r v = { s with gpr := put8 s.gpr r v }
    ∧ ∀ q, q ≠ byteParent r → (put8 s.gpr r v).get q = s.gpr.get q

/-- R9: RAM_SIZE is the least power of two that is at least 1 MiB and at least the request. -/
def Obligations.RamSizeIsLeastPowerOfTwo : Prop :=
  ∀ request : Nat, ∃ k, ramSizeOf request = 2 ^ k ∧ 20 ≤ k ∧ request ≤ 2 ^ k ∧ (20 < k → 2 ^ (k - 1) < request)

/-- R62, R70: the translation is by the spec's shift and mask in both modes; a word read takes its high byte from offset + 1, but at
offset 0xFFFF from offset 0 in 8086 mode and from the next physical address in 80186 mode. -/
def Obligations.TranslationAndWordRead : Prop :=
  (∀ (seg : Word) (off : Nat), Machine.translate seg off = ((seg.toNat <<< 4) + off % 0x10000) &&& 0xFFFFF)
    ∧ ∀ (s : State) (seg off : Word), (s.read16 seg off).toNat = (s.readByte (Machine.translate seg off.toNat)).toNat +
      256 * (s.readByte (if off.toNat ≠ 0xFFFF then Machine.translate seg (off.toNat + 1)
        else if s.cfg.arch = .a8086 then Machine.translate seg 0 else Machine.translate seg 0xFFFF + 1)).toNat

/-- R65, R67, R71: a word write at a physical address stores the low byte there, then the high byte at the next address; a segmented
one stores them, in this order, at the addresses of the read. Each byte store of a hooked page below 256 is one event with the address
before the reduction modulo RAM_SIZE, and every other byte of memory is as before. -/
def Obligations.WordWriteStoresAndEvents : Prop :=
  (∀ (s : State) (a : Nat) (v : Word), Changed { Changes.keep s with stores :=
      [(a, BitVec.ofNat 8 v.toNat), (a + 1, BitVec.ofNat 8 (v.toNat / 256))] } s (s.writeWordPhys a v)
    ∧ (s.writeWordPhys a v).flags = s.flags)
  ∧ ∀ (s : State) (seg off v : Word), Changed { Changes.keep s with stores :=
    [(Machine.translate seg off.toNat, BitVec.ofNat 8 v.toNat), (if off.toNat ≠ 0xFFFF then Machine.translate seg (off.toNat + 1)
      else if s.cfg.arch = .a8086 then Machine.translate seg 0 else Machine.translate seg 0xFFFF + 1, BitVec.ofNat 8 (v.toNat / 256))] }
    s (s.write16 seg off v) ∧ (s.write16 seg off v).flags = s.flags

/-! ## Binary ALU (41_alu_binary.md) -/

/-- R171 to R173 and R177: ADD, OR, ADC, SBB, AND, SUB, XOR, CMP on bytes (the forms Eb,Gb; Gb,Eb; AL,Ib and group 1 Eb,Ib, 0x80 and
0x82) and on words (Ev,Gv; Gv,Ev; AX,Iv and group 1 Ev,Iv and Ev,Ibs, the last with its byte sign-extended): the six flags, the result
written to the left operand unless the operation is CMP, and nothing else. -/
def Obligations.BinaryAlu : Prop :=
  (∀ op i, (op, i) ∈ opsEbGb → ∀ e g s, AluByte op (i e g) (resolve s e) (s.reg8 g) s)
    ∧ (∀ op i, (op, i) ∈ opsGbEb → ∀ g e s, AluByte op (i g e) (.register g) (s.readE8 (resolve s e)) s)
    ∧ (∀ op i, (op, i) ∈ opsAlIb → ∀ imm s, AluByte op (i imm) (.register .al) imm s)
    ∧ (∀ op i, (op, i) ∈ opsEbIb → ∀ e imm s, AluByte op (i e imm) (resolve s e) imm s)
    ∧ (∀ op i, (op, i) ∈ opsEvGv → ∀ e g s, AluWord op (i e g) (resolve s e) (s.reg16 g) s)
    ∧ (∀ op i, (op, i) ∈ opsGvEv → ∀ g e s, AluWord op (i g e) (.register g) (s.readE16 (resolve s e)) s)
    ∧ (∀ op i, (op, i) ∈ opsAxIv → ∀ imm s, AluWord op (i imm) (.register .ax) imm s)
    ∧ (∀ op i, (op, i) ∈ opsEvIv → ∀ e imm s, AluWord op (i e imm) (resolve s e) imm s)
    ∧ ∀ op i, (op, i) ∈ opsEvIbs → ∀ e imm s, AluWord op (i e imm) (resolve s e) (BitVec.ofInt 16 imm.toInt) s

/-- R174: CF is the overflow of the unsigned reading and OF the overflow of the signed reading, for addition and subtraction, with
carry or borrow in, at both widths. -/
def Obligations.CarryAndOverflowReadings : Prop :=
  ∀ w ∈ [8, 16], ∀ (l r : BitVec w) (c : Bool) (f : Flags),
    ((addWith l r c f).2.cf = true ↔ 2 ^ w ≤ l.toNat + r.toNat + c.toNat)
      ∧ ((addWith l r c f).2.of = true ↔
        (l.toInt + r.toInt + c.toNat < -(2 ^ (w - 1)) ∨ 2 ^ (w - 1) - 1 < l.toInt + r.toInt + c.toNat))
      ∧ ((subWith l r c f).2.cf = true ↔ l.toNat < r.toNat + c.toNat)
      ∧ ((subWith l r c f).2.of = true ↔
        (l.toInt - r.toInt - c.toNat < -(2 ^ (w - 1)) ∨ 2 ^ (w - 1) - 1 < l.toInt - r.toInt - c.toNat))

/-- R190: TEST in its six forms writes the flags of the AND and no operand. -/
def Obligations.TestWritesOnlyFlags : Prop :=
  ∀ s : State, s.cfg.strictSourceSet = false →
    (∀ e g, TestOf 8 (.testEbGb e g) (s.readE8 (resolve s e)).toNat (s.reg8 g).toNat s)
      ∧ (∀ e g, TestOf 16 (.testEvGv e g) (s.readE16 (resolve s e)).toNat (s.reg16 g).toNat s)
      ∧ (∀ imm, TestOf 8 (.testAlIb imm) (s.reg8 .al).toNat imm.toNat s)
      ∧ (∀ imm, TestOf 16 (.testAxIv imm) (s.reg16 .ax).toNat imm.toNat s)
      ∧ (∀ e imm, TestOf 8 (.testEbIb e imm) (s.readE8 (resolve s e)).toNat imm.toNat s)
      ∧ ∀ e imm, TestOf 16 (.testEvIv e imm) (s.readE16 (resolve s e)).toNat imm.toNat s

/-- R192, R193: INC and DEC of a byte operand, of a word operand and of a word register write the operand and the five flags of adding
or subtracting 1; CF is not written. -/
def Obligations.IncDecKeepCarry : Prop :=
  ∀ s : State, s.cfg.strictSourceSet = false →
    (∀ e, ∃ (t : State) (res : Byte) (f : Flags), exec (.incEb e) s = .next t
      ∧ AddRule 8 (s.readE8 (resolve s e)).toNat 1 0 res.toNat f ∧ f.other = s.flags.other ∧ t.flags = { f with cf := s.flags.cf }
      ∧ Changed ((Changes.keep s).putE8 (resolve s e) res) s t)
    ∧ (∀ e, ∃ (t : State) (res : Byte) (f : Flags), exec (.decEb e) s = .next t
      ∧ SubRule 8 (s.readE8 (resolve s e)).toNat 1 0 res.toNat f ∧ f.other = s.flags.other ∧ t.flags = { f with cf := s.flags.cf }
      ∧ Changed ((Changes.keep s).putE8 (resolve s e) res) s t)
    ∧ ∀ (i : Instr) (o : Operand Reg16),
      ((∃ e, i = .incEv e ∧ o = resolve s e) ∨ (∃ r, i = .incR16 r ∧ o = .register r) →
        ∃ (t : State) (res : Word) (f : Flags), exec i s = .next t ∧ AddRule 16 (s.readE16 o).toNat 1 0 res.toNat f
          ∧ f.other = s.flags.other ∧ t.flags = { f with cf := s.flags.cf }
          ∧ Changed ((Changes.keep s).putE16 s.cfg.arch o res) s t)
      ∧ ((∃ e, i = .decEv e ∧ o = resolve s e) ∨ (∃ r, i = .decR16 r ∧ o = .register r) →
        ∃ (t : State) (res : Word) (f : Flags), exec i s = .next t ∧ SubRule 16 (s.readE16 o).toNat 1 0 res.toNat f
          ∧ f.other = s.flags.other ∧ t.flags = { f with cf := s.flags.cf }
          ∧ Changed ((Changes.keep s).putE16 s.cfg.arch o res) s t)

/-- R196, R197: NOT complements the operand and writes no flag; NEG subtracts it from 0, with CF = (operand is not 0), OF = (operand is the
sign bit alone) and AF = (its low nibble is not 0). -/
def Obligations.NotAndNeg : Prop :=
  ∀ s : State, s.cfg.strictSourceSet = false →
    (∀ e, Completes (.notEb e) (fun s => (Changes.keep s).putE8 (resolve s e)
        (BitVec.ofNat 8 (0xFF - (s.readE8 (resolve s e)).toNat))) s)
    ∧ (∀ e, Completes (.notEv e) (fun s => (Changes.keep s).putE16 s.cfg.arch (resolve s e)
        (BitVec.ofNat 16 (0xFFFF - (s.readE16 (resolve s e)).toNat))) s)
    ∧ (∀ e, ∃ (t : State) (res : Byte), exec (.negEb e) s = .next t
      ∧ SubRule 8 0 (s.readE8 (resolve s e)).toNat 0 res.toNat t.flags ∧ t.flags.other = s.flags.other
      ∧ t.flags.cf = decide ((s.readE8 (resolve s e)).toNat ≠ 0) ∧ t.flags.of = decide ((s.readE8 (resolve s e)).toNat = 0x80)
      ∧ t.flags.af = decide ((s.readE8 (resolve s e)).toNat % 16 ≠ 0)
      ∧ Changed ((Changes.keep s).putE8 (resolve s e) res) s t)
    ∧ ∀ e, ∃ (t : State) (res : Word), exec (.negEv e) s = .next t
      ∧ SubRule 16 0 (s.readE16 (resolve s e)).toNat 0 res.toNat t.flags ∧ t.flags.other = s.flags.other
      ∧ t.flags.cf = decide ((s.readE16 (resolve s e)).toNat ≠ 0) ∧ t.flags.of = decide ((s.readE16 (resolve s e)).toNat = 0x8000)
      ∧ t.flags.af = decide ((s.readE16 (resolve s e)).toNat % 16 ≠ 0)
      ∧ Changed ((Changes.keep s).putE16 s.cfg.arch (resolve s e) res) s t

/-! ## BCD adjust (42_bcd_adjust.md) -/

/-- R222, R223: DAA and DAS by the two conditions of R221 on the old AL and the old flags; AH and everything else as before. -/
def Obligations.DecimalAdjust : Prop :=
  decode [0x27] = .ok (.daa, []) ∧ decode [0x2F] = .ok (.das, []) ∧ ∀ s : State,
    let al := (s.reg8 .al).toNat
    let c1 := decide (9 < al % 16) || s.flags.af
    let c2 := decide (0x99 < al) || s.flags.cf
    (∃ (t : State) (r : Byte), exec .daa s = .next t
      ∧ r.toNat = (al + (if c1 then 0x06 else 0) + (if c2 then 0x60 else 0)) % 256
      ∧ t.flags.af = c1 ∧ t.flags.cf = c2 ∧ t.flags.of = false ∧ SzpRule 8 r.toNat t.flags ∧ t.flags.other = s.flags.other
      ∧ Changed ((Changes.keep s).putE8 (.register .al) r) s t)
    ∧ ∃ (t : State) (r : Byte), exec .das s = .next t
      ∧ (r.toNat : Int) = ((al : Int) - (if c1 then 0x06 else 0) - (if c2 then 0x60 else 0)) % 256
      ∧ t.flags.af = c1 ∧ t.flags.cf = c2 ∧ t.flags.of = false ∧ SzpRule 8 r.toNat t.flags ∧ t.flags.other = s.flags.other
      ∧ Changed ((Changes.keep s).putE8 (.register .al) r) s t

/-- R224, R225: AAA and AAS adjust AL and AH separately, AF and CF follow the condition, OF is 0, and SF, ZF, PF are draws. -/
def Obligations.AsciiAdjust : Prop :=
  decode [0x37] = .ok (.aaa, []) ∧ decode [0x3F] = .ok (.aas, []) ∧ ∀ s : State,
    let al := (s.reg8 .al).toNat
    let ah := (s.reg8 .ah).toNat
    let c1 := decide (9 < al % 16) || s.flags.af
    let f := { s.flags with af := c1, cf := c1, of := false, sf := s.draw 0, zf := s.draw 1, pf := s.draw 2 }
    (∃ (t : State) (ax : Word), exec .aaa s = .next t
      ∧ ax.toNat = (if c1 then (ah + 1) % 256 * 256 + (al + 6) % 16 else ah * 256 + al % 16) ∧ t.flags = f
      ∧ Changed { (Changes.keep s).putE16 s.cfg.arch (.register .ax) ax with draws := 3 } s t)
    ∧ ∃ (t : State) (ax : Word), exec .aas s = .next t
      ∧ (ax.toNat : Int) = (if c1 then ((ah : Int) - 1) % 256 * 256 + ((al : Int) - 6) % 16 else (ah : Int) * 256 + al % 16)
      ∧ t.flags = f
      ∧ Changed { (Changes.keep s).putE16 s.cfg.arch (.register .ax) ax with draws := 3 } s t

/-- R230, R231: AAM divides AL by the immediate (0 is the divide fault, AX and the flags unchanged before entry); AAD folds AH into AL;
SF, ZF, PF from AL, and CF, OF, AF are draws. -/
def Obligations.AsciiMultiplyAndDivideAdjust : Prop :=
  ∀ (s : State) (imm : Byte), s.cfg.strictSourceSet = false →
    let al := (s.reg8 .al).toNat
    let ah := (s.reg8 .ah).toNat
    (imm.toNat = 0 → Enters 0 (.aam imm) s)
    ∧ (imm.toNat ≠ 0 → ∃ (t : State) (ax : Word), exec (.aam imm) s = .next t
      ∧ ax.toNat = al / imm.toNat * 256 + al % imm.toNat ∧ SzpRule 8 (al % imm.toNat) t.flags
      ∧ t.flags.cf = s.draw 0 ∧ t.flags.of = s.draw 1 ∧ t.flags.af = s.draw 2 ∧ t.flags.other = s.flags.other
      ∧ Changed { (Changes.keep s).putE16 s.cfg.arch (.register .ax) ax with draws := 3 } s t)
    ∧ ∃ (t : State) (ax : Word), exec (.aad imm) s = .next t
      ∧ ax.toNat = (al + ah * imm.toNat) % 256 ∧ SzpRule 8 ((al + ah * imm.toNat) % 256) t.flags
      ∧ t.flags.cf = s.draw 0 ∧ t.flags.of = s.draw 1 ∧ t.flags.af = s.draw 2 ∧ t.flags.other = s.flags.other
      ∧ Changed { (Changes.keep s).putE16 s.cfg.arch (.register .ax) ax with draws := 3 } s t

/-! ## Shifts and rotates (43_shift_rotate.md) -/

/-- R243 to R252: ROL, ROR, RCL, RCR, SHL, SHR, SAR of a byte and of a word. By 1 the count is 1; by CL it is CL in 8086 mode and CL modulo
the width in 80186 mode; count 0 changes nothing at all, any other count applies the one-bit step that many times. -/
def Obligations.ShiftsAndRotates : Prop :=
  (∀ op i, (op, i) ∈ turnsEb1 → ∀ e s, ShiftByte op 1 (i e) (resolve s e) s)
    ∧ (∀ op i, (op, i) ∈ turnsEv1 → ∀ e s, ShiftWord op 1 (i e) (resolve s e) s)
    ∧ (∀ op i, (op, i) ∈ turnsEbCl → ∀ e s,
      let n := if s.cfg.arch = .a8086 then (s.reg8 .cl).toNat else (s.reg8 .cl).toNat % 8
      (n = 0 → exec (i e) s = .next s) ∧ (n ≠ 0 → ShiftByte op n (i e) (resolve s e) s))
    ∧ ∀ op i, (op, i) ∈ turnsEvCl → ∀ e s,
      let n := if s.cfg.arch = .a8086 then (s.reg8 .cl).toNat else (s.reg8 .cl).toNat % 16
      (n = 0 → exec (i e) s = .next s) ∧ (n ≠ 0 → ShiftWord op n (i e) (resolve s e) s)

/-- R252: the result of SAR by n below the width is the floor of the signed operand over 2 to the n, at both widths. -/
def Obligations.SarRoundsDown : Prop :=
  ∀ w ∈ [8, 16], ∀ (x : BitVec w) (cf : Bool) (n : Nat), n < w → (shiftSteps .sar n x cf).1.toInt = x.toInt / 2 ^ n

/-! ## Multiply and divide (44_mul_div.md) -/

/-- R271 to R274: MUL and IMUL leave the exact double-width product; CF = OF says that the upper half is significant; SF, ZF, PF, AF
are draws. -/
def Obligations.MultiplyIsExact : Prop :=
  ∀ s : State,
    let f := fun (c : Bool) => { s.flags with
      cf := c, of := c, sf := s.draw 0, zf := s.draw 1, pf := s.draw 2, af := s.draw 3 }
    (∀ e, ∃ (t : State) (ax : Word), exec (.mulEb e) s = .next t
      ∧ ax.toNat = (s.reg8 .al).toNat * (s.readE8 (resolve s e)).toNat ∧ t.flags = f (decide (ax.toNat / 256 ≠ 0))
      ∧ Changed { Changes.keep s with gpr := s.gpr.set .ax ax, draws := 4 } s t)
    ∧ (∀ e, ∃ (t : State) (ax dx : Word), exec (.mulEv e) s = .next t
      ∧ dx.toNat * 65536 + ax.toNat = (s.reg16 .ax).toNat * (s.readE16 (resolve s e)).toNat
      ∧ t.flags = f (decide (dx.toNat ≠ 0))
      ∧ Changed { Changes.keep s with gpr := (s.gpr.set .ax ax).set .dx dx, draws := 4 } s t)
    ∧ (∀ e, ∃ (t : State) (ax : Word), exec (.imulEb e) s = .next t
      ∧ ax.toInt = (s.reg8 .al).toInt * (s.readE8 (resolve s e)).toInt
      ∧ t.flags = f (decide (ax.toInt < -128 ∨ 127 < ax.toInt))
      ∧ Changed { Changes.keep s with gpr := s.gpr.set .ax ax, draws := 4 } s t)
    ∧ ∀ e, ∃ (t : State) (ax dx : Word), exec (.imulEv e) s = .next t
      ∧ dx.toInt * 65536 + ax.toNat = (s.reg16 .ax).toInt * (s.readE16 (resolve s e)).toInt
      ∧ t.flags = f (decide (dx.toInt * 65536 + ax.toNat < -32768 ∨ 32767 < dx.toInt * 65536 + ax.toNat))
      ∧ Changed { Changes.keep s with gpr := (s.gpr.set .ax ax).set .dx dx, draws := 4 } s t

/-- R275, R276, R279, R503: DIV raises the divide fault exactly when the divisor is 0 or the quotient does not fit, and then writes
nothing before the entry through vector 0; otherwise quotient and remainder are written and the six flags are draws. -/
def Obligations.UnsignedDivide : Prop :=
  ∀ s : State,
    let f := { s.flags with cf := s.draw 0, pf := s.draw 1, af := s.draw 2, zf := s.draw 3, sf := s.draw 4, of := s.draw 5 }
    (∀ e,
      let n := (s.reg16 .ax).toNat
      let d := (s.readE8 (resolve s e)).toNat
      (d = 0 ∨ 0xFF < n / d → Enters 0 (.divEb e) s)
      ∧ (¬ (d = 0 ∨ 0xFF < n / d) → ∃ (t : State) (ax : Word), exec (.divEb e) s = .next t
        ∧ ax.toNat = n % d * 256 + n / d ∧ t.flags = f
        ∧ Changed { Changes.keep s with gpr := s.gpr.set .ax ax, draws := 6 } s t))
    ∧ ∀ e,
      let n := (s.reg16 .dx).toNat * 65536 + (s.reg16 .ax).toNat
      let d := (s.readE16 (resolve s e)).toNat
      (d = 0 ∨ 0xFFFF < n / d → Enters 0 (.divEv e) s)
      ∧ (¬ (d = 0 ∨ 0xFFFF < n / d) → ∃ (t : State) (ax dx : Word), exec (.divEv e) s = .next t
        ∧ ax.toNat = n / d ∧ dx.toNat = n % d ∧ t.flags = f
        ∧ Changed { Changes.keep s with gpr := (s.gpr.set .ax ax).set .dx dx, draws := 6 } s t)

/-- R277, R278, R280, R503: IDIV divides toward zero; the fault is raised exactly when the divisor is 0 or the quotient lies outside the
full two's-complement range; the remainder has the dividend's sign. -/
def Obligations.SignedDivide : Prop :=
  ∀ s : State,
    let f := { s.flags with cf := s.draw 0, pf := s.draw 1, af := s.draw 2, zf := s.draw 3, sf := s.draw 4, of := s.draw 5 }
    (∀ e,
      let n := (s.reg16 .ax).toInt
      let d := (s.readE8 (resolve s e)).toInt
      (d = 0 ∨ n.tdiv d < -128 ∨ 127 < n.tdiv d → Enters 0 (.idivEb e) s)
      ∧ (¬ (d = 0 ∨ n.tdiv d < -128 ∨ 127 < n.tdiv d) → ∃ (t : State) (q r : Byte), exec (.idivEb e) s = .next t
        ∧ q.toInt = n.tdiv d ∧ n = q.toInt * d + r.toInt ∧ r.toInt.natAbs < d.natAbs ∧ (r.toInt = 0 ∨ (0 < r.toInt ↔ 0 < n))
        ∧ t.flags = f
        ∧ Changed { Changes.keep s with gpr := put8 (put8 s.gpr .al q) .ah r, draws := 6 } s t))
    ∧ ∀ e,
      let n := (s.reg16 .dx).toInt * 65536 + (s.reg16 .ax).toNat
      let d := (s.readE16 (resolve s e)).toInt
      (d = 0 ∨ n.tdiv d < -32768 ∨ 32767 < n.tdiv d → Enters 0 (.idivEv e) s)
      ∧ (¬ (d = 0 ∨ n.tdiv d < -32768 ∨ 32767 < n.tdiv d) → ∃ (t : State) (q r : Word), exec (.idivEv e) s = .next t
        ∧ q.toInt = n.tdiv d ∧ n = q.toInt * d + r.toInt ∧ r.toInt.natAbs < d.natAbs ∧ (r.toInt = 0 ∨ (0 < r.toInt ↔ 0 < n))
        ∧ t.flags = f
        ∧ Changed { Changes.keep s with gpr := (s.gpr.set .ax q).set .dx r, draws := 6 } s t)

/-! ## Data transfer (45_data_transfer.md) -/

/-- R300 to R311: MOV between registers, memory, immediates and segment registers, and between the accumulator and a direct offset in
DS or the overriding segment, writes its destination and nothing else. -/
def Obligations.MovWritesItsDestination : Prop :=
  ∀ s : State,
    let seg := s.seg.get (s.ctx.override.getD .ds)
    (∀ e g, Completes (.movEbGb e g) (fun s => (Changes.keep s).putE8 (resolve s e) (s.reg8 g)) s)
    ∧ (∀ e g, Completes (.movEvGv e g) (fun s => (Changes.keep s).putE16 s.cfg.arch (resolve s e) (s.reg16 g)) s)
    ∧ (∀ g e, Completes (.movGbEb g e) (fun s => (Changes.keep s).putE8 (.register g) (s.readE8 (resolve s e))) s)
    ∧ (∀ g e, Completes (.movGvEv g e) (fun s => (Changes.keep s).putE16 s.cfg.arch (.register g) (s.readE16 (resolve s e))) s)
    ∧ (∀ e sr, Completes (.movEwSw e sr) (fun s => (Changes.keep s).putE16 s.cfg.arch (resolve s e) (s.seg.get sr)) s)
    ∧ (∀ sr e, Completes (.movSwEw sr e) (fun s => { Changes.keep s with seg := s.seg.set sr (s.readE16 (resolve s e)) }) s)
    ∧ (∀ r imm, Completes (.movR8Ib r imm) (fun s => (Changes.keep s).putE8 (.register r) imm) s)
    ∧ (∀ r imm, Completes (.movR16Iv r imm) (fun s => (Changes.keep s).putE16 s.cfg.arch (.register r) imm) s)
    ∧ (∀ e imm, Completes (.movEbIb e imm) (fun s => (Changes.keep s).putE8 (resolve s e) imm) s)
    ∧ (∀ e imm, Completes (.movEvIv e imm) (fun s => (Changes.keep s).putE16 s.cfg.arch (resolve s e) imm) s)
    ∧ (∀ off, Completes (.movAlOb off) (fun s => (Changes.keep s).putE8 (.register .al) (s.read8 seg off)) s)
    ∧ (∀ off, Completes (.movAxOv off) (fun s => (Changes.keep s).putE16 s.cfg.arch (.register .ax) (s.read16 seg off)) s)
    ∧ (∀ off, Completes (.movObAl off) (fun s => (Changes.keep s).putE8 (.memory seg off) (s.reg8 .al)) s)
    ∧ ∀ off, Completes (.movOvAx off) (fun s => (Changes.keep s).putE16 s.cfg.arch (.memory seg off) (s.reg16 .ax)) s

/-- R143, R144, R308: LEA writes the wrapped sum of base, index and displacement, for each of the 24 forms, reads no memory and
ignores any override. -/
def Obligations.LeaComputesTheOffset : Prop :=
  ∀ (s : State) (g : Reg16) (m : MemRef),
    let ea : Int := match m with
      | .direct d => d.toNat
      | .based r .none => baseRegisters s r
      | .based r (.d8 d) => baseRegisters s r + d.toInt
      | .based r (.d16 d) => baseRegisters s r + d.toNat
    Completes (.leaGvM g m) (fun s => { Changes.keep s with gpr := s.gpr.set g (BitVec.ofInt 16 ea) }) s

/-- R140 to R146: what an `E` operand resolves to. A register form is that register; a memory form is the wrapped sum of base, index and
displacement, in the segment of the last column of R143 (SS for the BP-based forms, DS for the others and for the direct form) or,
when an override is active, in that segment instead. The two parts are also those the far-pointer forms use. -/
def Obligations.OperandResolution : Prop :=
  ∀ s : State,
    (∀ {ρ : Type} (r : ρ), resolve s (.reg r) = .register r)
    ∧ ∀ m : MemRef,
      let off : Int := match m with
        | .direct d => d.toNat
        | .based r .none => baseRegisters s r
        | .based r (.d8 d) => baseRegisters s r + d.toInt
        | .based r (.d16 d) => baseRegisters s r + d.toNat
      let default : SReg := match m with
        | .direct _ => .ds
        | .based .bpSi _ => .ss
        | .based .bpDi _ => .ss
        | .based .bp _ => .ss
        | .based .bxSi _ => .ds
        | .based .bxDi _ => .ds
        | .based .si _ => .ds
        | .based .di _ => .ds
        | .based .bx _ => .ds
      let seg : Word := match (match s.ctx.override with | some r => r | none => default) with
        | .es => s.seg.es
        | .cs => s.seg.cs
        | .ss => s.seg.ss
        | .ds => s.seg.ds
      (∀ {ρ : Type}, resolve s (.mem m : Rm ρ) = .memory seg (BitVec.ofInt 16 off))
        ∧ effectiveAddress s m = BitVec.ofInt 16 off ∧ defaultSegment m = default
        ∧ s.seg.get (s.ctx.override.getD (defaultSegment m)) = seg

/-- R312, R313: XCHG reads both operands before it writes either; the two values change places, also within one word register. -/
def Obligations.ExchangeSwapsOperands : Prop :=
  ∀ s : State, s.cfg.strictSourceSet = false →
    (∀ e g, Completes (.xchgEbGb e g) (fun s =>
        ((Changes.keep s).putE8 (resolve s e) (s.reg8 g)).putE8 (.register g) (s.readE8 (resolve s e))) s)
    ∧ (∀ e g, Completes (.xchgEvGv e g) (fun s =>
        ((Changes.keep s).putE16 s.cfg.arch (resolve s e) (s.reg16 g)).putE16 s.cfg.arch (.register g)
          (s.readE16 (resolve s e))) s)
    ∧ ∀ i r, (i, r) ∈ ([(.xchgAxCx, .cx), (.xchgAxDx, .dx), (.xchgAxBx, .bx), (.xchgAxSp, .sp), (.xchgAxBp, .bp), (.xchgAxSi, .si),
        (.xchgAxDi, .di)] : List (Instr × Reg16)) →
      Completes i (fun s => { Changes.keep s with gpr := (s.gpr.set .ax (s.gpr.get r)).set r s.gpr.ax }) s

/-- R152, R314, R315: LES and LDS read the offset word and, two bytes above it within the segment, the segment word, both before
either register is written. -/
def Obligations.LoadFarPointer : Prop :=
  ∀ (s : State) (g : Reg16) (m : MemRef), s.cfg.strictSourceSet = false →
    let seg := s.seg.get (s.ctx.override.getD (defaultSegment m))
    let off := effectiveAddress s m
    let o := s.read16 seg off
    let v := s.read16 seg (BitVec.ofNat 16 ((off.toNat + 2) % 65536))
    Completes (.lesGvMp g m) (fun s => { Changes.keep s with gpr := s.gpr.set g o, seg := s.seg.set .es v }) s
    ∧ Completes (.ldsGvMp g m) (fun s => { Changes.keep s with gpr := s.gpr.set g o, seg := s.seg.set .ds v }) s

/-- R316, R317, R318: XLAT adds AL to BX unsigned, CBW and CWD extend the sign of AL and AX. -/
def Obligations.TranslateAndSignExtend : Prop :=
  ∀ s : State, s.cfg.strictSourceSet = false →
    Completes .xlat (fun s => (Changes.keep s).putE8 (.register .al) (s.read8 (s.seg.get (s.ctx.override.getD .ds))
        (BitVec.ofNat 16 ((s.gpr.bx.toNat + (s.reg8 .al).toNat) % 65536)))) s
    ∧ Completes .cbw (fun s => { Changes.keep s with gpr := s.gpr.set .ax (BitVec.ofInt 16 (s.reg8 .al).toInt) }) s
    ∧ Completes .cwd (fun s => { Changes.keep s with
        gpr := s.gpr.set .dx (if s.gpr.ax.toNat / 32768 = 1 then 0xFFFF else 0) }) s

/-- R322 to R325, R86, R87: IN makes one port access of its width, whose answer, truncated to the width, goes to AL (AH unchanged) or AX;
OUT makes one with AL or AX and changes no register, flag or byte of memory; the port is the zero-extended immediate or DX. -/
def Obligations.PortInstructions : Prop :=
  (∀ b i, (b, i) ∈ ([(0xE4, .inAlIb), (0xE5, .inAxIb), (0xE6, .outIbAl), (0xE7, .outIbAx)] : List (Byte × (Byte → Instr))) →
      ∀ imm, decode [b, imm] = .ok (i imm, []))
  ∧ (∀ b i, (b, i) ∈ ([(0xEC, .inAlDx), (0xED, .inAxDx), (0xEE, .outDxAl), (0xEF, .outDxAx)] : List (Byte × Instr)) →
      decode [b] = .ok (i, []))
  ∧ ∀ s : State,
    let a8 := fun (p : Word) => Config.portIn p .byte s.portCount % 256
    let a16 := fun (p : Word) => Config.portIn p .word s.portCount % 65536
    let r8 := fun (p : Word) (s : State) => { (Changes.keep s).putE8 (.register .al) (BitVec.ofNat 8 (a8 p)) with
      ports := [.portRead p .byte (BitVec.ofNat 16 (a8 p))] }
    let r16 := fun (p : Word) (s : State) => { Changes.keep s with
      gpr := s.gpr.set .ax (BitVec.ofNat 16 (a16 p)), ports := [.portRead p .word (BitVec.ofNat 16 (a16 p))] }
    let w8 := fun (p : Word) (s : State) => { Changes.keep s with
      ports := [.portWrite p .byte (BitVec.ofNat 16 (s.gpr.ax.toNat % 256))] }
    let w16 := fun (p : Word) (s : State) => { Changes.keep s with ports := [.portWrite p .word s.gpr.ax] }
    (∀ imm : Byte,
      let p : Word := BitVec.ofNat 16 imm.toNat
      Completes (.inAlIb imm) (r8 p) s ∧ Completes (.inAxIb imm) (r16 p) s
        ∧ Completes (.outIbAl imm) (w8 p) s ∧ Completes (.outIbAx imm) (w16 p) s)
    ∧ Completes .inAlDx (r8 s.gpr.dx) s ∧ Completes .inAxDx (r16 s.gpr.dx) s
    ∧ Completes .outDxAl (w8 s.gpr.dx) s ∧ Completes .outDxAx (w16 s.gpr.dx) s

/-! ## The stack (46_stack.md) -/

/-- R340, R342, R343, R345, R348, R350: a push moves SP down by 2 and stores the word at SS:SP, low byte first. PUSH SP stores the new SP
in 8086 mode and the old SP in 80186 mode, in both encodings; PUSH Ev of anything else stores the operand as it was before SP
moved. -/
def Obligations.PushStoresBelowTheTop : Prop :=
  ∀ s : State,
    let v := if s.cfg.arch = .a8086 then s.gpr.sp - 2 else s.gpr.sp
    (∀ b i w, (b, i, w) ∈ pushes → decode [b] = .ok (i, []) ∧ Completes i (fun s => (Changes.keep s).push s.cfg.arch (w s)) s)
    ∧ decode [0x54] = .ok (.pushSp, []) ∧ Completes .pushSp (fun s => (Changes.keep s).push s.cfg.arch v) s
    ∧ (s.cfg.strictSourceSet = false → ∀ e, Completes (.pushEv e) (fun s => (Changes.keep s).push s.cfg.arch
        (if e = .reg .sp then v else s.readE16 (resolve s e))) s)

/-- R341, R344, R346, R349, R351: a pop reads the word at SS:SP, moves SP up by 2, and then writes its destination, so POP SP ends with
the popped word; POPF loads all sixteen bits of FLAGS. -/
def Obligations.PopReadsTheTop : Prop :=
  ∀ s : State,
    let up : State → Changes := fun s => { Changes.keep s with gpr := s.gpr.set .sp (s.gpr.sp + 2) }
    let top := stackWord s 0
    (∀ r, Completes (.popR16 r) (fun s => { up s with gpr := (s.gpr.set .sp (s.gpr.sp + 2)).set r top }) s)
    ∧ (∀ i sr, (i, sr) ∈ ([(.popEs, .es), (.popSs, .ss), (.popDs, .ds)] : List (Instr × SReg)) →
        Completes i (fun s => { up s with seg := s.seg.set sr top }) s)
    ∧ (∃ t, exec .popf s = .next t ∧ Changed (up s) s t ∧ t.flags.pack = top ∧ t.flags.other &&& 0x08D5#16 = 0#16)
    ∧ (s.cfg.strictSourceSet = false → ∀ e, Completes (.popEv e) (fun s => (up s).putE16 s.cfg.arch (resolve s e) top) s)

/-! ## String instructions (47_string.md) -/

/-- R371, R374, R376 to R383: without a repeat prefix each string instruction runs one iteration: the element accesses at the source
segment and SI and at ES and DI, the flags of CMPS and SCAS, and the index steps by DF. CX is not touched. -/
def Obligations.StringInstructionRunsOnce : Prop :=
  ∀ s : State, s.ctx.rep = none →
    let src := s.seg.get (s.ctx.override.getD .ds)
    let d : Nat → Word := fun size => if s.flags.other.getLsbD 10 then BitVec.ofInt 16 (-size) else BitVec.ofNat 16 size
    let si : Nat → Changes := fun size => { Changes.keep s with gpr := s.gpr.set .si (s.gpr.si + d size) }
    let di : Nat → Changes := fun size => { Changes.keep s with gpr := s.gpr.set .di (s.gpr.di + d size) }
    let both : Nat → Changes := fun size =>
      { Changes.keep s with gpr := (s.gpr.set .si (s.gpr.si + d size)).set .di (s.gpr.di + d size) }
    Completes .movsb (fun _ => (both 1).putE8 (.memory s.seg.es s.gpr.di) (s.read8 src s.gpr.si)) s
    ∧ Completes .movsw (fun _ => (both 2).putE16 s.cfg.arch (.memory s.seg.es s.gpr.di) (s.read16 src s.gpr.si)) s
    ∧ Completes .stosb (fun _ => (di 1).putE8 (.memory s.seg.es s.gpr.di) (s.reg8 .al)) s
    ∧ Completes .stosw (fun _ => (di 2).putE16 s.cfg.arch (.memory s.seg.es s.gpr.di) s.gpr.ax) s
    ∧ Completes .lodsb (fun _ => (si 1).putE8 (.register .al) (s.read8 src s.gpr.si)) s
    ∧ Completes .lodsw (fun _ => (si 2).putE16 s.cfg.arch (.register .ax) (s.read16 src s.gpr.si)) s
    ∧ (∃ (t : State) (res : Nat), exec .cmpsb s = .next t ∧ Changed (both 1) s t ∧ t.flags.other = s.flags.other
        ∧ SubRule 8 (s.read8 src s.gpr.si).toNat (s.read8 s.seg.es s.gpr.di).toNat 0 res t.flags)
    ∧ (∃ (t : State) (res : Nat), exec .cmpsw s = .next t ∧ Changed (both 2) s t ∧ t.flags.other = s.flags.other
        ∧ SubRule 16 (s.read16 src s.gpr.si).toNat (s.read16 s.seg.es s.gpr.di).toNat 0 res t.flags)
    ∧ (∃ (t : State) (res : Nat), exec .scasb s = .next t ∧ Changed (di 1) s t ∧ t.flags.other = s.flags.other
        ∧ SubRule 8 (s.reg8 .al).toNat (s.read8 s.seg.es s.gpr.di).toNat 0 res t.flags)
    ∧ ∃ (t : State) (res : Nat), exec .scasw s = .next t ∧ Changed (di 2) s t ∧ t.flags.other = s.flags.other
        ∧ SubRule 16 s.gpr.ax.toNat (s.read16 s.seg.es s.gpr.di).toNat 0 res t.flags

/-- R372, R373: the repeat loop, unrolled by one. With CX = 0 nothing happens. Otherwise one iteration runs, CX is decremented, and CMPS
or SCAS leaves the loop on its condition; else the same loop goes on from there, with the override only if it persists. -/
def Obligations.RepeatLoopUnrolls : Prop :=
  ∀ i ∈ strings, ∀ (s : State) (mode : RepMode), s.ctx.rep = some mode →
    (s.gpr.cx.toNat = 0 → exec i s = .next s)
    ∧ (s.gpr.cx.toNat ≠ 0 → ∃ t, exec i { s with ctx := { s.ctx with rep := none } } = .next t ∧
      let u : State := { t with gpr := t.gpr.set .cx (t.gpr.cx - 1), ctx := s.ctx }
      if comparing i = true ∧ u.flags.zf = decide (mode = .repnz) then exec i s = .next u
      else exec i s = withCtx s.ctx (exec i
        { u with ctx := if s.cfg.overridePersistsInRep then s.ctx else { s.ctx with override := none } }))

/-- R370, R372, R374: a repeated MOVS, STOS or LODS ends with CX = 0 and each index it uses advanced by CX times its step. -/
def Obligations.RepeatedMoveAdvancesIndexes : Prop :=
  ∀ (i : Instr) (size : Nat) (usesSi usesDi : Bool), (i, size, usesSi, usesDi) ∈ ([(.movsb, 1, true, true), (.movsw, 2, true, true),
      (.stosb, 1, false, true), (.stosw, 2, false, true), (.lodsb, 1, true, false), (.lodsw, 2, true, false)] :
      List (Instr × Nat × Bool × Bool)) →
    ∀ (s : State) (mode : RepMode), s.ctx.rep = some mode →
      let d : Int := if s.flags.other.getLsbD 10 then -(size * s.gpr.cx.toNat : Int) else size * s.gpr.cx.toNat
      ∃ t, exec i s = .next t ∧ t.gpr.cx = 0 ∧ t.flags = s.flags
        ∧ t.gpr.si = (if usesSi then BitVec.ofInt 16 (s.gpr.si.toNat + d) else s.gpr.si)
        ∧ t.gpr.di = (if usesDi then BitVec.ofInt 16 (s.gpr.di.toNat + d) else s.gpr.di)

/-! ## Control transfer (48_control_transfer.md) -/

/-- R401, R402: each of the sixteen conditional jumps goes to IP plus the signed displacement exactly when its condition holds, and
otherwise on to the next instruction. -/
def Obligations.ConditionalJumps : Prop :=
  ∀ b i taken, (b, i, taken) ∈ jumps → ∀ d : Byte, decode [b, d] = .ok (i d, []) ∧ ∀ s : State,
    Completes (i d) (fun s => { Changes.keep s with
      ip := if taken s.flags then BitVec.ofInt 16 (s.ip.toNat + d.toInt) else s.ip }) s

/-- R404 to R409: the six unconditional jumps; the far ones load CS and IP, the indirect ones read their target first. -/
def Obligations.UnconditionalJumps : Prop :=
  ∀ s : State,
    (∀ d, Completes (.jmpShort d) (fun s => { Changes.keep s with ip := BitVec.ofInt 16 (s.ip.toNat + d.toInt) }) s)
    ∧ (∀ d, Completes (.jmpNear d) (fun s => { Changes.keep s with ip := BitVec.ofNat 16 ((s.ip.toNat + d.toNat) % 65536) }) s)
    ∧ (∀ e, Completes (.jmpEv e) (fun s => { Changes.keep s with ip := s.readE16 (resolve s e) }) s)
    ∧ (∀ off seg, Completes (.jmpFar off seg) (fun s => { Changes.keep s with ip := off, seg := s.seg.set .cs seg }) s)
    ∧ ∀ m,
      let seg := s.seg.get (s.ctx.override.getD (defaultSegment m))
      let off := effectiveAddress s m
      Completes (.jmpMp m) (fun s => { Changes.keep s with
        ip := s.read16 seg off, seg := s.seg.set .cs (s.read16 seg (BitVec.ofNat 16 ((off.toNat + 2) % 65536))) }) s

/-- R410 to R414: the four calls push the return address, a far call CS before it, and read an indirect target before the push. -/
def Obligations.Calls : Prop :=
  ∀ s : State,
    (∀ d, Completes (.callNear d) (fun s => { (Changes.keep s).push s.cfg.arch s.ip with
      ip := BitVec.ofNat 16 ((s.ip.toNat + d.toNat) % 65536) }) s)
    ∧ (∀ e, Completes (.callEv e) (fun s => { (Changes.keep s).push s.cfg.arch s.ip with ip := s.readE16 (resolve s e) }) s)
    ∧ (∀ off seg, Completes (.callFar off seg) (fun s =>
      { ((Changes.keep s).push s.cfg.arch s.seg.cs).push s.cfg.arch s.ip with ip := off, seg := s.seg.set .cs seg }) s)
    ∧ ∀ m,
      let seg := s.seg.get (s.ctx.override.getD (defaultSegment m))
      let off := effectiveAddress s m
      Completes (.callMp m) (fun s => { ((Changes.keep s).push s.cfg.arch s.seg.cs).push s.cfg.arch s.ip with
        ip := s.read16 seg off, seg := s.seg.set .cs (s.read16 seg (BitVec.ofNat 16 ((off.toNat + 2) % 65536))) }) s

/-- R415 to R418: the four returns pop IP, a far one then CS, with one SS for both, and add an unsigned immediate to SP afterwards. -/
def Obligations.Returns : Prop :=
  decode [0xC3] = .ok (.retNear, []) ∧ (∀ lo hi : Byte, decode [0xC2, lo, hi] = .ok (.retNearIw (hi ++ lo), []))
  ∧ decode [0xCB] = .ok (.retFar, []) ∧ (∀ lo hi : Byte, decode [0xCA, lo, hi] = .ok (.retFarIw (hi ++ lo), []))
  ∧ ∀ s : State,
    Completes .retNear (fun s => { Changes.keep s with ip := stackWord s 0, gpr := s.gpr.set .sp (s.gpr.sp + 2) }) s
    ∧ (∀ n, Completes (.retNearIw n) (fun s => { Changes.keep s with
      ip := stackWord s 0, gpr := s.gpr.set .sp (BitVec.ofNat 16 ((s.gpr.sp.toNat + 2 + n.toNat) % 65536)) }) s)
    ∧ Completes .retFar (fun s => { Changes.keep s with
      ip := stackWord s 0, seg := s.seg.set .cs (stackWord s 1), gpr := s.gpr.set .sp (s.gpr.sp + 4) }) s
    ∧ ∀ n, Completes (.retFarIw n) (fun s => { Changes.keep s with
      ip := stackWord s 0, seg := s.seg.set .cs (stackWord s 1),
      gpr := s.gpr.set .sp (BitVec.ofNat 16 ((s.gpr.sp.toNat + 4 + n.toNat) % 65536)) }) s

/-- R425 to R428: LOOP, LOOPE and LOOPNE decrement CX and test it after the decrement; JCXZ tests CX and does not change it; none writes
a flag. -/
def Obligations.LoopInstructions : Prop :=
  ∀ (s : State) (d : Byte),
    decode [0xE0, d] = .ok (.loopne d, []) ∧ decode [0xE1, d] = .ok (.loope d, []) ∧ decode [0xE2, d] = .ok (.loop d, [])
    ∧ decode [0xE3, d] = .ok (.jcxz d, []) ∧
    let target : Word := BitVec.ofInt 16 (s.ip.toNat + d.toInt)
    let cx : Word := BitVec.ofNat 16 ((s.gpr.cx.toNat + 65535) % 65536)
    let c := fun (taken : Bool) (s : State) =>
      { Changes.keep s with gpr := s.gpr.set .cx cx, ip := if taken then target else s.ip }
    Completes (.loop d) (c (decide (cx.toNat ≠ 0))) s
    ∧ Completes (.loope d) (c (decide (cx.toNat ≠ 0 ∧ s.flags.zf = true))) s
    ∧ Completes (.loopne d) (c (decide (cx.toNat ≠ 0 ∧ s.flags.zf = false))) s
    ∧ Completes (.jcxz d) (fun s => { Changes.keep s with ip := if s.gpr.cx.toNat = 0 then target else s.ip }) s

/-! ## Flags, interrupts, HLT, NOP (49_flags_int_hlt.md, 60_exceptions.md) -/

/-- R450 to R456, R476, R478: each single-flag instruction writes its one flag and nothing else; HLT raises only the Halt signal (log 5
shows that outcome in the state); NOP changes nothing. -/
def Obligations.SingleFlagsHltAndNop : Prop :=
  (∀ b i f, (b, i, f) ∈ ([(0xF8, .clc, fun f => { f with cf := false }), (0xF9, .stc, fun f => { f with cf := true }),
      (0xF5, .cmc, fun f => { f with cf := !f.cf }), (0xFA, .cli, fun f => { f with other := f.other &&& ~~~0x0200#16 }),
      (0xFB, .sti, fun f => { f with other := f.other ||| 0x0200#16 }), (0xFC, .cld, fun f => { f with other := f.other &&& ~~~0x0400#16 }),
      (0xFD, .std, fun f => { f with other := f.other ||| 0x0400#16 })] : List (Byte × Instr × (Flags → Flags))) →
    decode [b] = .ok (i, []) ∧ ∀ s : State, exec i s = .next { s with flags := f s.flags })
    ∧ decode [0xF4] = .ok (.hlt, []) ∧ decode [0x90] = .ok (.nop, [])
    ∧ ∀ s : State, exec .hlt s = .next { s with halt := true } ∧ (s.cfg.strictSourceSet = false → exec .nop s = .next s)

/-- R459, R460: SAHF loads SF, ZF, AF, PF, CF from bits 7, 6, 4, 2, 0 of AH and leaves OF and every opaque bit; LAHF loads AH from the low
byte of FLAGS, the three opaque bits as stored. -/
def Obligations.SahfAndLahf : Prop :=
  decode [0x9E] = .ok (.sahf, []) ∧ decode [0x9F] = .ok (.lahf, []) ∧ ∀ s : State,
    let ah := (s.reg8 .ah).toNat
    exec .sahf s = .next { s with flags := { s.flags with
        sf := ah.testBit 7, zf := ah.testBit 6, af := ah.testBit 4, pf := ah.testBit 2, cf := ah.testBit 0 } }
    ∧ (s.flags.other &&& 0x08D5#16 = 0#16 →
      Completes .lahf (fun s => (Changes.keep s).putE8 (.register .ah) (BitVec.ofNat 8 (s.flags.sf.toNat * 128 + s.flags.zf.toNat * 64
        + (s.flags.other.getLsbD 5).toNat * 32 + s.flags.af.toNat * 16 + (s.flags.other.getLsbD 3).toNat * 8
        + s.flags.pf.toNat * 4 + (s.flags.other.getLsbD 1).toNat * 2 + s.flags.cf.toNat))) s)

/-- R470, R471, R472, R506: INT, INT3 and INTO with OF = 1 push FLAGS, CS, IP in this order, load CS:IP from the vector as the pushes
left it, and clear TF and IF; INTO with OF = 0 changes nothing. -/
def Obligations.SoftwareInterrupts : Prop :=
  (∀ n, decode [0xCD, n] = .ok (.intIb n, [])) ∧ decode [0xCC] = .ok (.int3, []) ∧ decode [0xCE] = .ok (.into, [])
    ∧ ∀ s : State, (∀ n : Byte, Enters n.toNat (.intIb n) s) ∧ Enters 3 .int3 s
    ∧ (s.flags.of = true → Enters 4 .into s) ∧ (s.flags.of = false → exec .into s = .next s)

/-- R474: IRET pops IP, CS and FLAGS, all sixteen bits, with one SS for the three. -/
def Obligations.InterruptReturn : Prop :=
  decode [0xCF] = .ok (.iret, []) ∧ ∀ s : State, ∃ t, exec .iret s = .next t
    ∧ Changed { Changes.keep s with
        ip := stackWord s 0, seg := s.seg.set .cs (stackWord s 1), gpr := s.gpr.set .sp (s.gpr.sp + 6) } s t
    ∧ t.flags.pack = stackWord s 2 ∧ t.flags.other &&& 0x08D5#16 = 0#16

/-- R473: INT n and then IRET restore CS, IP (past the INT), FLAGS and every general register, for every vector, every SS:SP
and both architecture modes. -/
def Obligations.InterruptThenReturnRestores : Prop :=
  ∀ (s : State) (n : Byte), s.flags.other &&& 0x08D5#16 = 0#16 →
    ∃ t u, exec (.intIb n) s = .next t ∧ exec .iret t = .next u
      ∧ u.ip = s.ip ∧ u.seg = s.seg ∧ u.flags = s.flags ∧ u.gpr = s.gpr
end

