-- ==== Sys2Proof/Laws/State.lean ====
section
/-! SUPPORT. One lemma per field per update of State, and per accessor per update that leaves it alone: no later proof unfolds a
record update. -/

namespace Sys2Proof.Machine

/-! ### setReg16 -/

@[simp] theorem State.setReg16_gpr (s : State) (r : Reg16) (v : Word) : (s.setReg16 r v).gpr = s.gpr.set r v := rfl
@[simp] theorem State.setReg16_seg (s : State) (r : Reg16) (v : Word) : (s.setReg16 r v).seg = s.seg := rfl
@[simp] theorem State.setReg16_ip (s : State) (r : Reg16) (v : Word) : (s.setReg16 r v).ip = s.ip := rfl
@[simp] theorem State.setReg16_flags (s : State) (r : Reg16) (v : Word) : (s.setReg16 r v).flags = s.flags := rfl
@[simp] theorem State.setReg16_ctx (s : State) (r : Reg16) (v : Word) : (s.setReg16 r v).ctx = s.ctx := rfl
@[simp] theorem State.setReg16_mem (s : State) (r : Reg16) (v : Word) : (s.setReg16 r v).mem = s.mem := rfl
@[simp] theorem State.setReg16_hooks (s : State) (r : Reg16) (v : Word) : (s.setReg16 r v).hooks = s.hooks := rfl
@[simp] theorem State.setReg16_events (s : State) (r : Reg16) (v : Word) : (s.setReg16 r v).events = s.events := rfl
@[simp] theorem State.setReg16_halt (s : State) (r : Reg16) (v : Word) : (s.setReg16 r v).halt = s.halt := rfl
@[simp] theorem State.setReg16_drawCount (s : State) (r : Reg16) (v : Word) : (s.setReg16 r v).drawCount = s.drawCount := rfl
@[simp] theorem State.setReg16_portCount (s : State) (r : Reg16) (v : Word) : (s.setReg16 r v).portCount = s.portCount := rfl
@[simp] theorem State.setReg16_cfg (s : State) (r : Reg16) (v : Word) : (s.setReg16 r v).cfg = s.cfg := rfl
@[simp] theorem State.setReg16_sreg (s : State) (r : Reg16) (v : Word) (q : SReg) : (s.setReg16 r v).sreg q = s.sreg q := rfl
@[simp] theorem State.setReg16_ramSize (s : State) (r : Reg16) (v : Word) : (s.setReg16 r v).ramSize = s.ramSize := rfl

/-! ### setSreg -/

@[simp] theorem State.setSreg_gpr (s : State) (r : SReg) (v : Word) : (s.setSreg r v).gpr = s.gpr := rfl
@[simp] theorem State.setSreg_seg (s : State) (r : SReg) (v : Word) : (s.setSreg r v).seg = s.seg.set r v := rfl
@[simp] theorem State.setSreg_ip (s : State) (r : SReg) (v : Word) : (s.setSreg r v).ip = s.ip := rfl
@[simp] theorem State.setSreg_flags (s : State) (r : SReg) (v : Word) : (s.setSreg r v).flags = s.flags := rfl
@[simp] theorem State.setSreg_ctx (s : State) (r : SReg) (v : Word) : (s.setSreg r v).ctx = s.ctx := rfl
@[simp] theorem State.setSreg_mem (s : State) (r : SReg) (v : Word) : (s.setSreg r v).mem = s.mem := rfl
@[simp] theorem State.setSreg_hooks (s : State) (r : SReg) (v : Word) : (s.setSreg r v).hooks = s.hooks := rfl
@[simp] theorem State.setSreg_events (s : State) (r : SReg) (v : Word) : (s.setSreg r v).events = s.events := rfl
@[simp] theorem State.setSreg_halt (s : State) (r : SReg) (v : Word) : (s.setSreg r v).halt = s.halt := rfl
@[simp] theorem State.setSreg_drawCount (s : State) (r : SReg) (v : Word) : (s.setSreg r v).drawCount = s.drawCount := rfl
@[simp] theorem State.setSreg_portCount (s : State) (r : SReg) (v : Word) : (s.setSreg r v).portCount = s.portCount := rfl
@[simp] theorem State.setSreg_cfg (s : State) (r : SReg) (v : Word) : (s.setSreg r v).cfg = s.cfg := rfl
@[simp] theorem State.setSreg_reg16 (s : State) (r : SReg) (v : Word) (q : Reg16) : (s.setSreg r v).reg16 q = s.reg16 q := rfl
@[simp] theorem State.setSreg_reg8 (s : State) (r : SReg) (v : Word) (q : Reg8) : (s.setSreg r v).reg8 q = s.reg8 q := rfl
@[simp] theorem State.setSreg_ramSize (s : State) (r : SReg) (v : Word) : (s.setSreg r v).ramSize = s.ramSize := rfl

/-! ### setIp -/

@[simp] theorem State.setIp_gpr (s : State) (v : Word) : (s.setIp v).gpr = s.gpr := rfl
@[simp] theorem State.setIp_seg (s : State) (v : Word) : (s.setIp v).seg = s.seg := rfl
@[simp] theorem State.setIp_ip (s : State) (v : Word) : (s.setIp v).ip = v := rfl
@[simp] theorem State.setIp_flags (s : State) (v : Word) : (s.setIp v).flags = s.flags := rfl
@[simp] theorem State.setIp_ctx (s : State) (v : Word) : (s.setIp v).ctx = s.ctx := rfl
@[simp] theorem State.setIp_mem (s : State) (v : Word) : (s.setIp v).mem = s.mem := rfl
@[simp] theorem State.setIp_hooks (s : State) (v : Word) : (s.setIp v).hooks = s.hooks := rfl
@[simp] theorem State.setIp_events (s : State) (v : Word) : (s.setIp v).events = s.events := rfl
@[simp] theorem State.setIp_halt (s : State) (v : Word) : (s.setIp v).halt = s.halt := rfl
@[simp] theorem State.setIp_drawCount (s : State) (v : Word) : (s.setIp v).drawCount = s.drawCount := rfl
@[simp] theorem State.setIp_portCount (s : State) (v : Word) : (s.setIp v).portCount = s.portCount := rfl
@[simp] theorem State.setIp_cfg (s : State) (v : Word) : (s.setIp v).cfg = s.cfg := rfl
@[simp] theorem State.setIp_reg16 (s : State) (v : Word) (q : Reg16) : (s.setIp v).reg16 q = s.reg16 q := rfl
@[simp] theorem State.setIp_reg8 (s : State) (v : Word) (q : Reg8) : (s.setIp v).reg8 q = s.reg8 q := rfl
@[simp] theorem State.setIp_sreg (s : State) (v : Word) (q : SReg) : (s.setIp v).sreg q = s.sreg q := rfl
@[simp] theorem State.setIp_ramSize (s : State) (v : Word) : (s.setIp v).ramSize = s.ramSize := rfl

/-! ### setFlags -/

@[simp] theorem State.setFlags_gpr (s : State) (f : Flags) : (s.setFlags f).gpr = s.gpr := rfl
@[simp] theorem State.setFlags_seg (s : State) (f : Flags) : (s.setFlags f).seg = s.seg := rfl
@[simp] theorem State.setFlags_ip (s : State) (f : Flags) : (s.setFlags f).ip = s.ip := rfl
@[simp] theorem State.setFlags_flags (s : State) (f : Flags) : (s.setFlags f).flags = f := rfl
@[simp] theorem State.setFlags_ctx (s : State) (f : Flags) : (s.setFlags f).ctx = s.ctx := rfl
@[simp] theorem State.setFlags_mem (s : State) (f : Flags) : (s.setFlags f).mem = s.mem := rfl
@[simp] theorem State.setFlags_hooks (s : State) (f : Flags) : (s.setFlags f).hooks = s.hooks := rfl
@[simp] theorem State.setFlags_events (s : State) (f : Flags) : (s.setFlags f).events = s.events := rfl
@[simp] theorem State.setFlags_halt (s : State) (f : Flags) : (s.setFlags f).halt = s.halt := rfl
@[simp] theorem State.setFlags_drawCount (s : State) (f : Flags) : (s.setFlags f).drawCount = s.drawCount := rfl
@[simp] theorem State.setFlags_portCount (s : State) (f : Flags) : (s.setFlags f).portCount = s.portCount := rfl
@[simp] theorem State.setFlags_cfg (s : State) (f : Flags) : (s.setFlags f).cfg = s.cfg := rfl
@[simp] theorem State.setFlags_reg16 (s : State) (f : Flags) (q : Reg16) : (s.setFlags f).reg16 q = s.reg16 q := rfl
@[simp] theorem State.setFlags_reg8 (s : State) (f : Flags) (q : Reg8) : (s.setFlags f).reg8 q = s.reg8 q := rfl
@[simp] theorem State.setFlags_sreg (s : State) (f : Flags) (q : SReg) : (s.setFlags f).sreg q = s.sreg q := rfl
@[simp] theorem State.setFlags_ramSize (s : State) (f : Flags) : (s.setFlags f).ramSize = s.ramSize := rfl

/-! ### setFlagsWord -/

@[simp] theorem State.setFlagsWord_gpr (s : State) (v : Word) : (s.setFlagsWord v).gpr = s.gpr := rfl
@[simp] theorem State.setFlagsWord_seg (s : State) (v : Word) : (s.setFlagsWord v).seg = s.seg := rfl
@[simp] theorem State.setFlagsWord_ip (s : State) (v : Word) : (s.setFlagsWord v).ip = s.ip := rfl
@[simp] theorem State.setFlagsWord_flags (s : State) (v : Word) : (s.setFlagsWord v).flags = Flags.unpack v := rfl
@[simp] theorem State.setFlagsWord_ctx (s : State) (v : Word) : (s.setFlagsWord v).ctx = s.ctx := rfl
@[simp] theorem State.setFlagsWord_mem (s : State) (v : Word) : (s.setFlagsWord v).mem = s.mem := rfl
@[simp] theorem State.setFlagsWord_hooks (s : State) (v : Word) : (s.setFlagsWord v).hooks = s.hooks := rfl
@[simp] theorem State.setFlagsWord_events (s : State) (v : Word) : (s.setFlagsWord v).events = s.events := rfl
@[simp] theorem State.setFlagsWord_halt (s : State) (v : Word) : (s.setFlagsWord v).halt = s.halt := rfl
@[simp] theorem State.setFlagsWord_drawCount (s : State) (v : Word) : (s.setFlagsWord v).drawCount = s.drawCount := rfl
@[simp] theorem State.setFlagsWord_portCount (s : State) (v : Word) : (s.setFlagsWord v).portCount = s.portCount := rfl
@[simp] theorem State.setFlagsWord_cfg (s : State) (v : Word) : (s.setFlagsWord v).cfg = s.cfg := rfl
@[simp] theorem State.setFlagsWord_reg16 (s : State) (v : Word) (q : Reg16) : (s.setFlagsWord v).reg16 q = s.reg16 q := rfl
@[simp] theorem State.setFlagsWord_reg8 (s : State) (v : Word) (q : Reg8) : (s.setFlagsWord v).reg8 q = s.reg8 q := rfl
@[simp] theorem State.setFlagsWord_sreg (s : State) (v : Word) (q : SReg) : (s.setFlagsWord v).sreg q = s.sreg q := rfl
@[simp] theorem State.setFlagsWord_ramSize (s : State) (v : Word) : (s.setFlagsWord v).ramSize = s.ramSize := rfl

/-! ### setCtx -/

@[simp] theorem State.setCtx_gpr (s : State) (c : DecodeCtx) : (s.setCtx c).gpr = s.gpr := rfl
@[simp] theorem State.setCtx_seg (s : State) (c : DecodeCtx) : (s.setCtx c).seg = s.seg := rfl
@[simp] theorem State.setCtx_ip (s : State) (c : DecodeCtx) : (s.setCtx c).ip = s.ip := rfl
@[simp] theorem State.setCtx_flags (s : State) (c : DecodeCtx) : (s.setCtx c).flags = s.flags := rfl
@[simp] theorem State.setCtx_ctx (s : State) (c : DecodeCtx) : (s.setCtx c).ctx = c := rfl
@[simp] theorem State.setCtx_mem (s : State) (c : DecodeCtx) : (s.setCtx c).mem = s.mem := rfl
@[simp] theorem State.setCtx_hooks (s : State) (c : DecodeCtx) : (s.setCtx c).hooks = s.hooks := rfl
@[simp] theorem State.setCtx_events (s : State) (c : DecodeCtx) : (s.setCtx c).events = s.events := rfl
@[simp] theorem State.setCtx_halt (s : State) (c : DecodeCtx) : (s.setCtx c).halt = s.halt := rfl
@[simp] theorem State.setCtx_drawCount (s : State) (c : DecodeCtx) : (s.setCtx c).drawCount = s.drawCount := rfl
@[simp] theorem State.setCtx_portCount (s : State) (c : DecodeCtx) : (s.setCtx c).portCount = s.portCount := rfl
@[simp] theorem State.setCtx_cfg (s : State) (c : DecodeCtx) : (s.setCtx c).cfg = s.cfg := rfl
@[simp] theorem State.setCtx_reg16 (s : State) (c : DecodeCtx) (q : Reg16) : (s.setCtx c).reg16 q = s.reg16 q := rfl
@[simp] theorem State.setCtx_reg8 (s : State) (c : DecodeCtx) (q : Reg8) : (s.setCtx c).reg8 q = s.reg8 q := rfl
@[simp] theorem State.setCtx_sreg (s : State) (c : DecodeCtx) (q : SReg) : (s.setCtx c).sreg q = s.sreg q := rfl
@[simp] theorem State.setCtx_ramSize (s : State) (c : DecodeCtx) : (s.setCtx c).ramSize = s.ramSize := rfl

/-! ### setHalt -/

@[simp] theorem State.setHalt_gpr (s : State) (b : Bool) : (s.setHalt b).gpr = s.gpr := rfl
@[simp] theorem State.setHalt_seg (s : State) (b : Bool) : (s.setHalt b).seg = s.seg := rfl
@[simp] theorem State.setHalt_ip (s : State) (b : Bool) : (s.setHalt b).ip = s.ip := rfl
@[simp] theorem State.setHalt_flags (s : State) (b : Bool) : (s.setHalt b).flags = s.flags := rfl
@[simp] theorem State.setHalt_ctx (s : State) (b : Bool) : (s.setHalt b).ctx = s.ctx := rfl
@[simp] theorem State.setHalt_mem (s : State) (b : Bool) : (s.setHalt b).mem = s.mem := rfl
@[simp] theorem State.setHalt_hooks (s : State) (b : Bool) : (s.setHalt b).hooks = s.hooks := rfl
@[simp] theorem State.setHalt_events (s : State) (b : Bool) : (s.setHalt b).events = s.events := rfl
@[simp] theorem State.setHalt_halt (s : State) (b : Bool) : (s.setHalt b).halt = b := rfl
@[simp] theorem State.setHalt_drawCount (s : State) (b : Bool) : (s.setHalt b).drawCount = s.drawCount := rfl
@[simp] theorem State.setHalt_portCount (s : State) (b : Bool) : (s.setHalt b).portCount = s.portCount := rfl
@[simp] theorem State.setHalt_cfg (s : State) (b : Bool) : (s.setHalt b).cfg = s.cfg := rfl
@[simp] theorem State.setHalt_reg16 (s : State) (b : Bool) (q : Reg16) : (s.setHalt b).reg16 q = s.reg16 q := rfl
@[simp] theorem State.setHalt_reg8 (s : State) (b : Bool) (q : Reg8) : (s.setHalt b).reg8 q = s.reg8 q := rfl
@[simp] theorem State.setHalt_sreg (s : State) (b : Bool) (q : SReg) : (s.setHalt b).sreg q = s.sreg q := rfl
@[simp] theorem State.setHalt_ramSize (s : State) (b : Bool) : (s.setHalt b).ramSize = s.ramSize := rfl

/-! ### emit -/

@[simp] theorem State.emit_gpr (s : State) (e : Event) : (s.emit e).gpr = s.gpr := rfl
@[simp] theorem State.emit_seg (s : State) (e : Event) : (s.emit e).seg = s.seg := rfl
@[simp] theorem State.emit_ip (s : State) (e : Event) : (s.emit e).ip = s.ip := rfl
@[simp] theorem State.emit_flags (s : State) (e : Event) : (s.emit e).flags = s.flags := rfl
@[simp] theorem State.emit_ctx (s : State) (e : Event) : (s.emit e).ctx = s.ctx := rfl
@[simp] theorem State.emit_mem (s : State) (e : Event) : (s.emit e).mem = s.mem := rfl
@[simp] theorem State.emit_hooks (s : State) (e : Event) : (s.emit e).hooks = s.hooks := rfl
@[simp] theorem State.emit_events (s : State) (e : Event) : (s.emit e).events = s.events ++ [e] := rfl
@[simp] theorem State.emit_halt (s : State) (e : Event) : (s.emit e).halt = s.halt := rfl
@[simp] theorem State.emit_drawCount (s : State) (e : Event) : (s.emit e).drawCount = s.drawCount := rfl
@[simp] theorem State.emit_portCount (s : State) (e : Event) : (s.emit e).portCount = s.portCount := rfl
@[simp] theorem State.emit_cfg (s : State) (e : Event) : (s.emit e).cfg = s.cfg := rfl
@[simp] theorem State.emit_reg16 (s : State) (e : Event) (q : Reg16) : (s.emit e).reg16 q = s.reg16 q := rfl
@[simp] theorem State.emit_reg8 (s : State) (e : Event) (q : Reg8) : (s.emit e).reg8 q = s.reg8 q := rfl
@[simp] theorem State.emit_sreg (s : State) (e : Event) (q : SReg) : (s.emit e).sreg q = s.sreg q := rfl
@[simp] theorem State.emit_ramSize (s : State) (e : Event) : (s.emit e).ramSize = s.ramSize := rfl

/-! ### setMem -/

@[simp] theorem State.setMem_gpr (s : State) (m : List Host.Cell) : (s.setMem m).gpr = s.gpr := rfl
@[simp] theorem State.setMem_seg (s : State) (m : List Host.Cell) : (s.setMem m).seg = s.seg := rfl
@[simp] theorem State.setMem_ip (s : State) (m : List Host.Cell) : (s.setMem m).ip = s.ip := rfl
@[simp] theorem State.setMem_flags (s : State) (m : List Host.Cell) : (s.setMem m).flags = s.flags := rfl
@[simp] theorem State.setMem_ctx (s : State) (m : List Host.Cell) : (s.setMem m).ctx = s.ctx := rfl
@[simp] theorem State.setMem_mem (s : State) (m : List Host.Cell) : (s.setMem m).mem = m := rfl
@[simp] theorem State.setMem_hooks (s : State) (m : List Host.Cell) : (s.setMem m).hooks = s.hooks := rfl
@[simp] theorem State.setMem_events (s : State) (m : List Host.Cell) : (s.setMem m).events = s.events := rfl
@[simp] theorem State.setMem_halt (s : State) (m : List Host.Cell) : (s.setMem m).halt = s.halt := rfl
@[simp] theorem State.setMem_drawCount (s : State) (m : List Host.Cell) : (s.setMem m).drawCount = s.drawCount := rfl
@[simp] theorem State.setMem_portCount (s : State) (m : List Host.Cell) : (s.setMem m).portCount = s.portCount := rfl
@[simp] theorem State.setMem_cfg (s : State) (m : List Host.Cell) : (s.setMem m).cfg = s.cfg := rfl
@[simp] theorem State.setMem_reg16 (s : State) (m : List Host.Cell) (q : Reg16) : (s.setMem m).reg16 q = s.reg16 q := rfl
@[simp] theorem State.setMem_reg8 (s : State) (m : List Host.Cell) (q : Reg8) : (s.setMem m).reg8 q = s.reg8 q := rfl
@[simp] theorem State.setMem_sreg (s : State) (m : List Host.Cell) (q : SReg) : (s.setMem m).sreg q = s.sreg q := rfl
@[simp] theorem State.setMem_ramSize (s : State) (m : List Host.Cell) : (s.setMem m).ramSize = s.ramSize := rfl

/-! ### tookDraws -/

@[simp] theorem State.tookDraws_gpr (s : State) (n : Nat) : (s.tookDraws n).gpr = s.gpr := rfl
@[simp] theorem State.tookDraws_seg (s : State) (n : Nat) : (s.tookDraws n).seg = s.seg := rfl
@[simp] theorem State.tookDraws_ip (s : State) (n : Nat) : (s.tookDraws n).ip = s.ip := rfl
@[simp] theorem State.tookDraws_flags (s : State) (n : Nat) : (s.tookDraws n).flags = s.flags := rfl
@[simp] theorem State.tookDraws_ctx (s : State) (n : Nat) : (s.tookDraws n).ctx = s.ctx := rfl
@[simp] theorem State.tookDraws_mem (s : State) (n : Nat) : (s.tookDraws n).mem = s.mem := rfl
@[simp] theorem State.tookDraws_hooks (s : State) (n : Nat) : (s.tookDraws n).hooks = s.hooks := rfl
@[simp] theorem State.tookDraws_events (s : State) (n : Nat) : (s.tookDraws n).events = s.events := rfl
@[simp] theorem State.tookDraws_halt (s : State) (n : Nat) : (s.tookDraws n).halt = s.halt := rfl
@[simp] theorem State.tookDraws_drawCount (s : State) (n : Nat) : (s.tookDraws n).drawCount = s.drawCount + n := rfl
@[simp] theorem State.tookDraws_portCount (s : State) (n : Nat) : (s.tookDraws n).portCount = s.portCount := rfl
@[simp] theorem State.tookDraws_cfg (s : State) (n : Nat) : (s.tookDraws n).cfg = s.cfg := rfl
@[simp] theorem State.tookDraws_reg16 (s : State) (n : Nat) (q : Reg16) : (s.tookDraws n).reg16 q = s.reg16 q := rfl
@[simp] theorem State.tookDraws_reg8 (s : State) (n : Nat) (q : Reg8) : (s.tookDraws n).reg8 q = s.reg8 q := rfl
@[simp] theorem State.tookDraws_sreg (s : State) (n : Nat) (q : SReg) : (s.tookDraws n).sreg q = s.sreg q := rfl
@[simp] theorem State.tookDraws_ramSize (s : State) (n : Nat) : (s.tookDraws n).ramSize = s.ramSize := rfl

end Sys2Proof.Machine
end

