-- ==== Sys2Proof/Laws/Registers.lean ====
section
/-! SUPPORT. Registers: read after write, halves of a word (R20 to R24), segment registers (R26), and the packed FLAGS word
(R33 to R35). -/

namespace Sys2Proof.Machine

/-! ### Halves of a word -/

theorem loByte_toNat (v : Word) : (loByte v).toNat = v.toNat % 256 := by simp [loByte]

theorem hiByte_toNat (v : Word) : (hiByte v).toNat = v.toNat / 256 := by
  have h : v.toNat < 65536 := v.isLt
  simp only [hiByte, BitVec.extractLsb'_toNat, Nat.shiftRight_eq_div_pow]
  omega

theorem wordOf_toNat (hi lo : Byte) : (wordOf hi lo).toNat = hi.toNat * 256 + lo.toNat := by
  unfold wordOf
  rw [BitVec.toNat_append, ← Nat.shiftLeft_add_eq_or_of_lt lo.isLt, Nat.shiftLeft_eq]

@[simp] theorem loByte_wordOf (hi lo : Byte) : loByte (wordOf hi lo) = lo := by
  apply BitVec.eq_of_toNat_eq
  have := lo.isLt
  rw [loByte_toNat, wordOf_toNat]; omega

@[simp] theorem hiByte_wordOf (hi lo : Byte) : hiByte (wordOf hi lo) = hi := by
  apply BitVec.eq_of_toNat_eq
  have := lo.isLt
  rw [hiByte_toNat, wordOf_toNat]; omega

@[simp] theorem wordOf_hiByte_loByte (v : Word) : wordOf (hiByte v) (loByte v) = v := by
  apply BitVec.eq_of_toNat_eq
  rw [wordOf_toNat, hiByte_toNat, loByte_toNat]; omega

/-! ### General registers -/

@[simp] theorem Gpr.get_set_same (g : Gpr) (r : Reg16) (v : Word) : (g.set r v).get r = v := by cases r <;> rfl

theorem Gpr.get_set_of_ne (g : Gpr) {r q : Reg16} (v : Word) (h : q ≠ r) : (g.set r v).get q = g.get q := by
  cases r <;> cases q <;> first | rfl | exact absurd rfl h

@[simp] theorem State.reg16_setReg16_same (s : State) (r : Reg16) (v : Word) : (s.setReg16 r v).reg16 r = v :=
  Gpr.get_set_same ..

theorem State.reg16_setReg16_of_ne (s : State) {r q : Reg16} (v : Word) (h : q ≠ r) :
    (s.setReg16 r v).reg16 q = s.reg16 q :=
  Gpr.get_set_of_ne _ _ h

theorem State.reg16_setReg16 (s : State) (r q : Reg16) (v : Word) :
    (s.setReg16 r v).reg16 q = if q = r then v else s.reg16 q := by
  split
  · subst_vars; simp
  · exact State.reg16_setReg16_of_ne _ _ ‹_›

/-- R24: a byte write is read back. -/
@[simp] theorem State.reg8_setReg8_same (s : State) (r : Reg8) (v : Byte) : (s.setReg8 r v).reg8 r = v := by
  cases r <;> simp [State.reg8, State.setReg8, isHighHalf, byteParent]

/-- R24: a byte write leaves every other byte register as it was, the other half of the same word included. -/
theorem State.reg8_setReg8_of_ne (s : State) {r q : Reg8} (v : Byte) (h : q ≠ r) : (s.setReg8 r v).reg8 q = s.reg8 q := by
  cases r <;> cases q <;>
    first
    | exact absurd rfl h
    | simp [State.reg8, State.setReg8, isHighHalf, byteParent, State.reg16_setReg16]

/-- A byte write leaves every word register that is not its parent as it was. -/
theorem State.reg16_setReg8_of_ne (s : State) {r : Reg8} {q : Reg16} (v : Byte) (h : q ≠ byteParent r) :
    (s.setReg8 r v).reg16 q = s.reg16 q :=
  State.reg16_setReg16_of_ne _ _ h

/-! ### Segment registers -/

@[simp] theorem Segs.get_set_same (g : Segs) (r : SReg) (v : Word) : (g.set r v).get r = v := by cases r <;> rfl

theorem Segs.get_set_of_ne (g : Segs) {r q : SReg} (v : Word) (h : q ≠ r) : (g.set r v).get q = g.get q := by
  cases r <;> cases q <;> first | rfl | exact absurd rfl h

/-- R28: FS and GS are not reachable by a segment-register write. -/
@[simp] theorem Segs.set_fs (g : Segs) (r : SReg) (v : Word) : (g.set r v).fs = g.fs := by cases r <;> rfl

@[simp] theorem Segs.set_gs (g : Segs) (r : SReg) (v : Word) : (g.set r v).gs = g.gs := by cases r <;> rfl

theorem State.sreg_setSreg (s : State) (r q : SReg) (v : Word) : (s.setSreg r v).sreg q = if q = r then v else s.sreg q := by
  split
  · subst_vars; exact Segs.get_set_same ..
  · exact Segs.get_set_of_ne _ _ ‹_›

@[simp] theorem State.sreg_setSreg_same (s : State) (r : SReg) (v : Word) : (s.setSreg r v).sreg r = v :=
  Segs.get_set_same ..

/-! ### The packed FLAGS word -/

theorem flagBit_getLsbD (b : Bool) (k i : Nat) (hk : k < 16) : (flagBit b k).getLsbD i = (b && decide (i = k)) := by
  cases b
  · simp [flagBit]
  · simp only [flagBit, if_true, BitVec.getLsbD_shiftLeft, BitVec.getLsbD_one, Bool.true_and]
    rcases Nat.lt_trichotomy i k with h | h | h
    · simp [h, Nat.ne_of_lt h]
    · subst h; simp [hk]
    · have h1 : ¬ i - k = 0 := by omega
      simp [h1, Nat.ne_of_gt h]

/-- Bit i of the packed word, one position at a time (R33). -/
theorem Flags.pack_getLsbD (f : Flags) (i : Nat) :
    f.pack.getLsbD i = (f.other.getLsbD i || (f.cf && decide (i = 0)) || (f.pf && decide (i = 2)) || (f.af && decide (i = 4))
      || (f.zf && decide (i = 6)) || (f.sf && decide (i = 7)) || (f.of && decide (i = 11))) := by
  simp only [Flags.pack, BitVec.getLsbD_or, flagBit_getLsbD _ 0 _ (by decide), flagBit_getLsbD _ 2 _ (by decide),
    flagBit_getLsbD _ 4 _ (by decide), flagBit_getLsbD _ 6 _ (by decide), flagBit_getLsbD _ 7 _ (by decide),
    flagBit_getLsbD _ 11 _ (by decide)]

/-- The sixteen bit positions of a word. -/
theorem bit_cases {P : Nat → Prop} (h0 : P 0) (h1 : P 1) (h2 : P 2) (h3 : P 3) (h4 : P 4) (h5 : P 5) (h6 : P 6) (h7 : P 7)
    (h8 : P 8) (h9 : P 9) (h10 : P 10) (h11 : P 11) (h12 : P 12) (h13 : P 13) (h14 : P 14) (h15 : P 15) :
    ∀ i, i < 16 → P i := by
  intro i hi
  interval_cases i <;> assumption

/-- R35: a packed write is read back exactly, every one of the sixteen bits. -/
theorem Flags.pack_unpack (v : Word) : (Flags.unpack v).pack = v := by
  apply BitVec.eq_of_getLsbD_eq
  simp only [Flags.pack_getLsbD, Flags.unpack, BitVec.getLsbD_and]
  apply bit_cases <;> simp

/-- R34: the opaque word never holds a bit that is a condition flag's. -/
theorem Flags.unpack_other (v : Word) : (Flags.unpack v).other &&& 0x08D5#16 = 0#16 := by
  simp [Flags.unpack, BitVec.and_assoc]

/-- A condition flag's bit of an opaque word that keeps R32 is clear. -/
theorem Flags.other_getLsbD {f : Flags} (h : f.other &&& 0x08D5#16 = 0#16) (k : Nat) (hk : (0x08D5#16).getLsbD k = true) :
    f.other.getLsbD k = false := by
  have := congrArg (fun v => v.getLsbD k) h
  simpa [hk] using this

/-- R35 the other way: unpacking the packed word gives the seven fields back when the opaque word keeps R32. -/
theorem Flags.unpack_pack (f : Flags) (h : f.other &&& 0x08D5#16 = 0#16) : Flags.unpack f.pack = f := by
  have h0 := Flags.other_getLsbD h 0 rfl
  have h2 := Flags.other_getLsbD h 2 rfl
  have h4 := Flags.other_getLsbD h 4 rfl
  have h6 := Flags.other_getLsbD h 6 rfl
  have h7 := Flags.other_getLsbD h 7 rfl
  have h11 := Flags.other_getLsbD h 11 rfl
  have hother : f.pack &&& 0xF72A#16 = f.other := by
    apply BitVec.eq_of_getLsbD_eq
    simp only [BitVec.getLsbD_and, Flags.pack_getLsbD]
    apply bit_cases <;> simp_all [-BitVec.getLsbD_eq_getElem]
  have hflags : f.pack.getLsbD 0 = f.cf ∧ f.pack.getLsbD 2 = f.pf ∧ f.pack.getLsbD 4 = f.af ∧ f.pack.getLsbD 6 = f.zf
      ∧ f.pack.getLsbD 7 = f.sf ∧ f.pack.getLsbD 11 = f.of := by
    simp only [Flags.pack_getLsbD, h0, h2, h4, h6, h7, h11]
    simp
  obtain ⟨e0, e2, e4, e6, e7, e11⟩ := hflags
  unfold Flags.unpack
  rw [e0, e2, e4, e6, e7, e11, hother]

end Sys2Proof.Machine
end

