-- ==== Sys2Proof/Laws/Memory.lean ====
section
/-! SUPPORT. Memory: read after write, a write leaves every other byte alone, and every memory operation keeps the canonical
form (R60, R63 to R71). -/

namespace Sys2Proof.Machine

/-! ### The list of cells -/

theorem Memory.get_filter_of_ne (m : List Host.Cell) {a q : Nat} (h : q ≠ a) :
    Memory.get (m.filter (fun c => c.1 ≠ a)) q = Memory.get m q := by
  induction m with
  | nil => rfl
  | cons c m ih =>
    obtain ⟨k, v⟩ := c
    by_cases hk : k = a
    · have hq : ¬ k = q := by omega
      simpa [hk, Memory.get, hq, show ¬ a = q by omega] using ih
    · simp only [List.filter_cons, hk, ne_eq, not_false_eq_true, decide_true, if_true, Memory.get]
      rw [ih]

theorem Memory.get_filter_same (m : List Host.Cell) (a : Nat) :
    Memory.get (m.filter (fun c => c.1 ≠ a)) a = Memory.unlisted := by
  induction m with
  | nil => rfl
  | cons c m ih =>
    obtain ⟨k, v⟩ := c
    by_cases hk : k = a
    · simpa [hk] using ih
    · simp only [List.filter_cons, hk, ne_eq, not_false_eq_true, decide_true, if_true, Memory.get, if_false]
      exact ih

theorem Memory.get_insert_same (m : List Host.Cell) (a : Nat) (b : Byte) : Memory.get (Memory.insert m a b) a = b := by
  induction m with
  | nil => simp [Memory.insert, Memory.get]
  | cons c m ih =>
    obtain ⟨k, v⟩ := c
    unfold Memory.insert
    split
    · simp [Memory.get]
    · split
      · simp [Memory.get]
      · simp only [Memory.get, if_neg ‹¬ k = a›]; exact ih

theorem Memory.get_insert_of_ne (m : List Host.Cell) {a q : Nat} (b : Byte) (h : q ≠ a) :
    Memory.get (Memory.insert m a b) q = Memory.get m q := by
  induction m with
  | nil => simp [Memory.insert, Memory.get, h.symm]
  | cons c m ih =>
    obtain ⟨k, v⟩ := c
    unfold Memory.insert
    split
    · simp [Memory.get, h.symm]
    · split
      · subst_vars; simp [Memory.get, h.symm]
      · simp only [Memory.get]; rw [ih]

/-- A stored byte is read back. -/
@[simp] theorem Memory.get_set_same (m : List Host.Cell) (a : Nat) (b : Byte) : Memory.get (Memory.set m a b) a = b := by
  unfold Memory.set
  split
  · rw [Memory.get_filter_same]; exact Eq.symm ‹_›
  · exact Memory.get_insert_same ..

/-- A store leaves every other byte as it was. -/
theorem Memory.get_set_of_ne (m : List Host.Cell) {a q : Nat} (b : Byte) (h : q ≠ a) :
    Memory.get (Memory.set m a b) q = Memory.get m q := by
  unfold Memory.set
  split
  · exact Memory.get_filter_of_ne m h
  · exact Memory.get_insert_of_ne m b h

theorem Memory.mem_insert {m : List Host.Cell} {a : Nat} {b : Byte} {c : Host.Cell} (h : c ∈ Memory.insert m a b) :
    c = (a, b) ∨ c ∈ m := by
  induction m with
  | nil => simpa [Memory.insert] using h
  | cons d m ih =>
    obtain ⟨k, v⟩ := d
    unfold Memory.insert at h
    split at h
    · simpa using h
    · split at h
      · rcases List.mem_cons.1 h with h | h
        · exact .inl h
        · exact .inr (List.mem_cons_of_mem _ h)
      · rcases List.mem_cons.1 h with h | h
        · exact .inr (h ▸ List.mem_cons_self)
        · exact (ih h).imp_right (List.mem_cons_of_mem _)

theorem Memory.insert_wf {m : List Host.Cell} (h : Memory.wf m) (a : Nat) {b : Byte} (hb : b ≠ Memory.unlisted) :
    Memory.wf (Memory.insert m a b) := by
  refine ⟨?_, fun c hc => ?_⟩
  · obtain ⟨hp, -⟩ := h
    induction m with
    | nil => simp [Memory.insert]
    | cons d m ih =>
      obtain ⟨k, v⟩ := d
      obtain ⟨hk, hp⟩ := List.pairwise_cons.1 hp
      unfold Memory.insert
      split
      · refine List.pairwise_cons.2 ⟨fun c hc => ?_, List.pairwise_cons.2 ⟨hk, hp⟩⟩
        rcases List.mem_cons.1 hc with rfl | hc
        · assumption
        · exact Nat.lt_trans ‹a < k› (hk c hc)
      · split
        · subst_vars; exact List.pairwise_cons.2 ⟨hk, hp⟩
        · refine List.pairwise_cons.2 ⟨fun c hc => ?_, ih hp⟩
          rcases Memory.mem_insert hc with rfl | hc
          · simp only; omega
          · exact hk c hc
  · rcases Memory.mem_insert hc with rfl | hc
    · exact hb
    · exact h.2 c hc

/-- Every store keeps the canonical form. -/
theorem Memory.set_wf {m : List Host.Cell} (h : Memory.wf m) (a : Nat) (b : Byte) : Memory.wf (Memory.set m a b) := by
  unfold Memory.set
  split
  · exact ⟨h.1.filter _, fun c hc => h.2 c (List.mem_filter.1 hc).1⟩
  · exact Memory.insert_wf h a ‹_›

/-- A store adds no cell but the one it stores to. -/
theorem Memory.mem_set {m : List Host.Cell} {a : Nat} {b : Byte} {c : Host.Cell} (h : c ∈ Memory.set m a b) :
    c.1 = a ∨ c ∈ m := by
  unfold Memory.set at h
  split at h
  · exact .inr (List.mem_filter.1 h).1
  · rcases Memory.mem_insert h with rfl | h
    · exact .inl rfl
    · exact .inr h

/-- Two canonical memories that read alike are the same list. -/
theorem Memory.ext {m n : List Host.Cell} (hm : Memory.wf m) (hn : Memory.wf n)
    (h : ∀ a, Memory.get m a = Memory.get n a) : m = n := by
  have get_of_lt : ∀ (l : List Host.Cell) (a : Nat), (∀ c ∈ l, a < c.1) → Memory.get l a = Memory.unlisted := by
    intro l a hl
    induction l with
    | nil => rfl
    | cons d l ih =>
      obtain ⟨k, v⟩ := d
      have : a < k := hl _ List.mem_cons_self
      rw [Memory.get, if_neg (by omega), ih (fun c hc => hl c (List.mem_cons_of_mem _ hc))]
  induction m generalizing n with
  | nil =>
    cases n with
    | nil => rfl
    | cons d n =>
      obtain ⟨k, v⟩ := d
      have := h k
      simp only [Memory.get, if_true] at this
      exact absurd this.symm (hn.2 (k, v) List.mem_cons_self)
  | cons d m ih =>
    obtain ⟨k, v⟩ := d
    obtain ⟨hmk, hmp⟩ := List.pairwise_cons.1 hm.1
    cases n with
    | nil =>
      have := h k
      simp only [Memory.get, if_true] at this
      exact absurd this (hm.2 (k, v) List.mem_cons_self)
    | cons e n =>
      obtain ⟨l, w⟩ := e
      obtain ⟨hnk, hnp⟩ := List.pairwise_cons.1 hn.1
      have hkl : k = l := by
        rcases Nat.lt_trichotomy k l with hlt | heq | hgt
        · have := h k
          rw [get_of_lt ((l, w) :: n) k (fun c hc => by
            rcases List.mem_cons.1 hc with rfl | hc
            · exact hlt
            · exact Nat.lt_trans hlt (hnk c hc))] at this
          simp only [Memory.get, if_true] at this
          exact absurd this (hm.2 (k, v) List.mem_cons_self)
        · exact heq
        · have := h l
          rw [get_of_lt ((k, v) :: m) l (fun c hc => by
            rcases List.mem_cons.1 hc with rfl | hc
            · exact hgt
            · exact Nat.lt_trans hgt (hmk c hc))] at this
          simp only [Memory.get, if_true] at this
          exact absurd this.symm (hn.2 (l, w) List.mem_cons_self)
      subst hkl
      have hv : v = w := by simpa [Memory.get] using h k
      subst hv
      congr 1
      refine ih ⟨hmp, fun c hc => hm.2 c (List.mem_cons_of_mem _ hc)⟩ ⟨hnp, fun c hc => hn.2 c (List.mem_cons_of_mem _ hc)⟩ ?_
      intro a
      by_cases ha : k = a
      · subst ha
        rw [get_of_lt m k hmk, get_of_lt n k hnk]
      · simpa [Memory.get, ha] using h a

/-! ### The size of RAM (R9) -/

theorem ramSizeOf_isPow (request : Nat) : ∃ k, 20 ≤ k ∧ ramSizeOf request = 2 ^ k := by
  unfold ramSizeOf
  split
  · exact ⟨20, by decide, rfl⟩
  · refine ⟨_, ?_, rfl⟩
    have h : 20 ≤ Nat.log2 (request - 1) := (Nat.le_log2 (by omega)).2 (by omega)
    omega

/-- R9: the array is at least 1 MiB. -/
theorem le_ramSizeOf (request : Nat) : 0x100000 ≤ ramSizeOf request := by
  obtain ⟨k, hk, e⟩ := ramSizeOf_isPow request
  rw [e, show 0x100000 = 2 ^ 20 from rfl]
  exact Nat.pow_le_pow_right (Nat.succ_pos 1) hk

theorem State.ramSize_pos (s : State) : 0 < s.ramSize := by
  have := le_ramSizeOf s.cfg.ramRequest
  unfold State.ramSize; omega

/-- R62: a translated address is a 20-bit number. -/
theorem translate_lt (seg : Word) (off : Nat) : translate seg off < 0x100000 := by
  unfold translate; omega

/-- R63: a translated address is inside the array, so the reduction modulo RAM_SIZE leaves it alone. -/
theorem State.translate_mod (s : State) (seg : Word) (off : Nat) : translate seg off % s.ramSize = translate seg off :=
  Nat.mod_eq_of_lt (Nat.lt_of_lt_of_le (translate_lt ..) (le_ramSizeOf _))

/-! ### One byte -/

/-- Everything a hook does: at most one event more (R81). -/
theorem State.hookEvent_eq (s : State) (a : Nat) (v : Byte) : ∃ l, s.hookEvent a v = { s with events := s.events ++ l } := by
  unfold State.hookEvent
  split
  · exact ⟨_, rfl⟩
  · exact ⟨[], by simp⟩

/-- Everything a byte store does: the byte at its address, and at most one event (R65). -/
theorem State.writeByte_eq (s : State) (a : Nat) (v : Byte) :
    ∃ l, s.writeByte a v = { s with mem := Memory.set s.mem (a % s.ramSize) v, events := s.events ++ l } := by
  obtain ⟨l, h⟩ := s.hookEvent_eq a v
  refine ⟨l, ?_⟩
  unfold State.writeByte
  rw [h]
  rfl

@[simp] theorem State.writeByte_mem (s : State) (a : Nat) (v : Byte) :
    (s.writeByte a v).mem = Memory.set s.mem (a % s.ramSize) v := by
  obtain ⟨l, h⟩ := s.writeByte_eq a v
  rw [h]

@[simp] theorem State.writeByte_cfg (s : State) (a : Nat) (v : Byte) : (s.writeByte a v).cfg = s.cfg := by
  obtain ⟨l, h⟩ := s.writeByte_eq a v
  rw [h]

@[simp] theorem State.writeByte_ramSize (s : State) (a : Nat) (v : Byte) : (s.writeByte a v).ramSize = s.ramSize := by
  unfold State.ramSize; rw [State.writeByte_cfg]

/-- A stored byte is read back (R64, R65). -/
@[simp] theorem State.readByte_writeByte_same (s : State) (a : Nat) (v : Byte) : (s.writeByte a v).readByte a = v := by
  simp [State.readByte]

/-- A store leaves every other byte of the array as it was. -/
theorem State.readByte_writeByte_of_ne (s : State) {a q : Nat} (v : Byte) (h : q % s.ramSize ≠ a % s.ramSize) :
    (s.writeByte a v).readByte q = s.readByte q := by
  simp [State.readByte, Memory.get_set_of_ne _ _ h]

/-! ### Words -/

/-- Everything a word store does: two bytes, and at most two events (R71). -/
theorem State.write16_eq (s : State) (seg off v : Word) :
    ∃ l, s.write16 seg off v = { s with
      mem := Memory.set (Memory.set s.mem (translate seg off.toNat % s.ramSize) (loByte v))
        (highByteAddr s.cfg.arch seg off % s.ramSize) (hiByte v)
      events := s.events ++ l } := by
  obtain ⟨l1, h1⟩ := s.writeByte_eq (translate seg off.toNat) (loByte v)
  unfold State.write16
  rw [h1]
  obtain ⟨l2, h2⟩ := State.writeByte_eq
    { s with mem := Memory.set s.mem (translate seg off.toNat % s.ramSize) (loByte v), events := s.events ++ l1 }
    (highByteAddr s.cfg.arch seg off) (hiByte v)
  exact ⟨l1 ++ l2, by rw [h2, List.append_assoc]; rfl⟩

/-- Everything a word store at a physical address does: two bytes, and at most two events (R67). -/
theorem State.writeWordPhys_eq (s : State) (a : Nat) (v : Word) :
    ∃ l, s.writeWordPhys a v = { s with
      mem := Memory.set (Memory.set s.mem (a % s.ramSize) (loByte v)) ((a + 1) % s.ramSize) (hiByte v)
      events := s.events ++ l } := by
  obtain ⟨l1, h1⟩ := s.writeByte_eq a (loByte v)
  obtain ⟨l2, h2⟩ := (s.writeByte a (loByte v)).writeByte_eq (a + 1) (hiByte v)
  exact ⟨l1 ++ l2, by unfold State.writeWordPhys; rw [h2, State.writeByte_ramSize, h1, List.append_assoc]⟩

/-- Two neighbouring physical addresses are different places of the array. -/
theorem State.succ_mod_ne (s : State) (a : Nat) : (a + 1) % s.ramSize ≠ a % s.ramSize := by
  have hs : 0x100000 ≤ s.ramSize := le_ramSizeOf _
  have h2 : a % s.ramSize < s.ramSize := Nat.mod_lt _ (by omega)
  rw [← Nat.mod_add_mod]
  generalize a % s.ramSize = k at h2
  by_cases he : k + 1 = s.ramSize
  · rw [he, Nat.mod_self]
    omega
  · rw [Nat.mod_eq_of_lt (by omega)]
    omega

/-- R66, R67: a word stored at a physical address is read back from it. -/
theorem State.readWordPhys_writeWordPhys_same (s : State) (a : Nat) (v : Word) :
    (s.writeWordPhys a v).readWordPhys a = v := by
  unfold State.readWordPhys State.writeWordPhys
  rw [State.readByte_writeByte_same, State.readByte_writeByte_of_ne _ _ (by simpa using (s.succ_mod_ne a).symm),
    State.readByte_writeByte_same]
  exact wordOf_hiByte_loByte v

/-- R67, R71: the segmented word store at offset 0xFFFF in 80186 mode is the physical one. -/
theorem State.write16_straddling (s : State) (seg v : Word) (h : s.cfg.arch = .a80186) :
    s.write16 seg 0xFFFF v = s.writeWordPhys (translate seg 0xFFFF) v := by
  simp [State.write16, State.writeWordPhys, highByteAddr, h]

/-- Everything a byte store through a segment does (R69). -/
theorem State.write8_eq (s : State) (seg off : Word) (v : Byte) :
    ∃ l, s.write8 seg off v = { s with mem := Memory.set s.mem (translate seg off.toNat % s.ramSize) v, events := s.events ++ l } :=
  s.writeByte_eq _ _

/-- The two bytes of a word are at different places of the array, in both architecture modes (R70). -/
theorem highByteAddr_ne (s : State) (seg off : Word) :
    highByteAddr s.cfg.arch seg off % s.ramSize ≠ translate seg off.toNat % s.ramSize := by
  have hs : 0x100000 ≤ s.ramSize := le_ramSizeOf _
  have hlt : translate seg off.toNat < 0x100000 := translate_lt ..
  rw [State.translate_mod]
  unfold highByteAddr
  split
  · subst_vars
    cases s.cfg.arch
    · simp only
      rw [State.translate_mod]
      have := seg.isLt
      unfold translate
      simp only [BitVec.toNat_ofNat]
      omega
    · simp only [BitVec.toNat_ofNat] at hlt ⊢
      by_cases he : translate seg 0xFFFF + 1 = s.ramSize
      · have h0 : (translate seg 0xFFFF + 1) % s.ramSize = 0 := by rw [he, Nat.mod_self]
        norm_num at h0 ⊢
        omega
      · have h0 : (translate seg 0xFFFF + 1) % s.ramSize = translate seg 0xFFFF + 1 :=
          Nat.mod_eq_of_lt (by norm_num at hlt ⊢; omega)
        norm_num at h0 ⊢
        omega
  · rw [State.translate_mod]
    have h1 := seg.isLt
    have h2 := off.isLt
    have h3 : off.toNat ≠ 0xFFFF := fun h => ‹¬ off = 0xFFFF#16› (BitVec.eq_of_toNat_eq h)
    unfold translate
    omega

/-- R72: a stored word is read back from the same place, in both architecture modes and at every offset. -/
theorem State.read16_write16_same (s : State) (seg off v : Word) : (s.write16 seg off v).read16 seg off = v := by
  have hne := highByteAddr_ne s seg off
  unfold State.read16 State.write16
  rw [State.writeByte_cfg, State.writeByte_cfg, State.readByte_writeByte_same,
    State.readByte_writeByte_of_ne _ _ (by simpa using hne.symm), State.readByte_writeByte_same]
  exact wordOf_hiByte_loByte v

/-- A word store leaves every byte but its two as it was. -/
theorem State.readByte_write16_of_ne (s : State) (seg off v : Word) {q : Nat}
    (h1 : q % s.ramSize ≠ translate seg off.toNat % s.ramSize)
    (h2 : q % s.ramSize ≠ highByteAddr s.cfg.arch seg off % s.ramSize) :
    (s.write16 seg off v).readByte q = s.readByte q := by
  unfold State.write16
  rw [State.readByte_writeByte_of_ne _ _ (by simpa using h2), State.readByte_writeByte_of_ne _ _ h1]

end Sys2Proof.Machine
end

