-- ==== Sys2Proof/Laws/Ops.lean ====
section
/-! SUPPORT. The shared operations over the stack, interrupts, ports and operands: for each, everything it can do, so that a
caller's proof cites it instead of unfolding it. -/

namespace Sys2Proof.Machine

/-! ### The stack (R340, R341, R353) -/

/-- Everything a push does: SP down by 2, the word stored at SS and the new SP, and at most two events (R340). -/
theorem State.push16_eq (s : State) (v : Word) :
    ∃ l, s.push16 v = { s with
      gpr := s.gpr.set .sp (s.gpr.sp - 2)
      mem := Memory.set (Memory.set s.mem (translate s.seg.ss (s.gpr.sp - 2).toNat % s.ramSize) (loByte v))
        (highByteAddr s.cfg.arch s.seg.ss (s.gpr.sp - 2) % s.ramSize) (hiByte v)
      events := s.events ++ l } := by
  obtain ⟨l, h⟩ := (s.setReg16 .sp (s.gpr.sp - 2)).write16_eq s.seg.ss (s.gpr.sp - 2) v
  exact ⟨l, h⟩

/-- Everything a pop does to the state: SP up by 2 (R341). -/
theorem State.dropTop_eq (s : State) : s.dropTop = { s with gpr := s.gpr.set .sp (s.gpr.sp + 2) } := rfl

@[simp] theorem State.push16_cfg (s : State) (v : Word) : (s.push16 v).cfg = s.cfg := by
  obtain ⟨l, h⟩ := s.push16_eq v; rw [h]

@[simp] theorem State.push16_ramSize (s : State) (v : Word) : (s.push16 v).ramSize = s.ramSize := by
  unfold State.ramSize; rw [State.push16_cfg]

@[simp] theorem State.push16_seg (s : State) (v : Word) : (s.push16 v).seg = s.seg := by
  obtain ⟨l, h⟩ := s.push16_eq v; rw [h]

@[simp] theorem State.push16_flags (s : State) (v : Word) : (s.push16 v).flags = s.flags := by
  obtain ⟨l, h⟩ := s.push16_eq v; rw [h]

@[simp] theorem State.push16_ip (s : State) (v : Word) : (s.push16 v).ip = s.ip := by
  obtain ⟨l, h⟩ := s.push16_eq v; rw [h]

@[simp] theorem State.push16_gpr (s : State) (v : Word) : (s.push16 v).gpr = s.gpr.set .sp (s.gpr.sp - 2) := by
  obtain ⟨l, h⟩ := s.push16_eq v; rw [h]

/-- R353: the word pushed last is the one on top. -/
@[simp] theorem State.top16_push16 (s : State) (v : Word) : (s.push16 v).top16 = v := by
  unfold State.top16
  have h1 : (s.push16 v).reg16 .sp = s.reg16 .sp - 2 := by
    show (s.push16 v).gpr.get .sp = s.gpr.sp - 2
    rw [State.push16_gpr, Gpr.get_set_same]
  have h2 : (s.push16 v).sreg .ss = s.sreg .ss := by
    show (s.push16 v).seg.get .ss = s.seg.get .ss
    rw [State.push16_seg]
  rw [h1, h2]
  exact State.read16_write16_same ..

/-- R353: a push and a pop restore every general register. -/
theorem State.dropTop_push16_gpr (s : State) (v : Word) : (s.push16 v).dropTop.gpr = s.gpr := by
  rw [State.dropTop_eq, State.push16_gpr]
  simp [Gpr.set]

/-! ### Interrupt entry and return (R506, R474) -/

/-- Everything an interrupt entry does beside its three pushes: CS and IP from the vector, TF and IF cleared (R506). -/
theorem State.interrupt_eq (s : State) (n : Byte) :
    s.interrupt n = { ((s.push16 s.flags.pack).push16 s.seg.cs).push16 s.ip with
      ip := (((s.push16 s.flags.pack).push16 s.seg.cs).push16 s.ip).readWordPhys (n.toNat * 4)
      seg := { s.seg with cs := (((s.push16 s.flags.pack).push16 s.seg.cs).push16 s.ip).readWordPhys (n.toNat * 4 + 2) }
      flags := s.flags.clearTfIf } := by
  unfold State.interrupt
  simp only [State.sreg, Segs.get, State.push16_flags]
  simp only [State.setFlags, State.setSreg, State.setIp, State.push16_seg, Segs.set]

/-- Everything an interrupt return does: three pops (R474). -/
theorem State.interruptReturn_eq (s : State) :
    s.interruptReturn = { s with
      gpr := s.gpr.set .sp (s.gpr.sp + 2 + 2 + 2)
      ip := s.top16
      seg := { s.seg with cs := s.dropTop.top16 }
      flags := Flags.unpack s.dropTop.dropTop.top16 } := rfl

/-! ### Ports (R86, R87) -/

/-- Everything a port read does: one event and one access more (R86). -/
theorem State.afterPortRead_eq (s : State) (port : Word) (w : Width) :
    s.afterPortRead port w = { s with
      events := s.events ++ [.portRead port w (s.portAnswer port w)]
      portCount := s.portCount + 1 } := rfl

/-- Everything a port write does: one event and one access more (R87). -/
theorem State.portWrite_eq (s : State) (port : Word) (w : Width) (v : Word) :
    s.portWrite port w v = { s with events := s.events ++ [.portWrite port w v], portCount := s.portCount + 1 } := rfl

/-! ### Operands (R148) -/

/-- Reading back a byte operand after writing it (R148). -/
theorem State.readE8_writeE8 (s : State) (o : Operand Reg8) (v : Byte) : (s.writeE8 o v).readE8 o = v := by
  cases o with
  | register r => exact State.reg8_setReg8_same ..
  | memory seg off => exact State.readByte_writeByte_same ..

/-- Reading back a word operand after writing it (R148). -/
theorem State.readE16_writeE16 (s : State) (o : Operand Reg16) (v : Word) : (s.writeE16 o v).readE16 o = v := by
  cases o with
  | register r => exact State.reg16_setReg16_same ..
  | memory seg off => exact State.read16_write16_same ..

/-- Everything a byte operand write does: the general registers, or RAM and events (R148). -/
theorem State.writeE8_eq (s : State) (o : Operand Reg8) (v : Byte) :
    ∃ g m l, s.writeE8 o v = { s with gpr := g, mem := m, events := s.events ++ l } := by
  cases o with
  | register r => exact ⟨_, s.mem, [], by simp only [List.append_nil]; rfl⟩
  | memory seg off =>
    obtain ⟨l, h⟩ := s.write8_eq seg off v
    exact ⟨s.gpr, _, l, h⟩

/-- Everything a word operand write does: the general registers, or RAM and events (R148). -/
theorem State.writeE16_eq (s : State) (o : Operand Reg16) (v : Word) :
    ∃ g m l, s.writeE16 o v = { s with gpr := g, mem := m, events := s.events ++ l } := by
  cases o with
  | register r => exact ⟨_, s.mem, [], by simp only [List.append_nil]; rfl⟩
  | memory seg off =>
    obtain ⟨l, h⟩ := s.write16_eq seg off v
    exact ⟨s.gpr, _, l, h⟩

/-! ### The reset input (R550) -/

/-- Everything the reset input does. -/
theorem State.resetInput_eq (s : State) :
    s.resetInput = { s with
      seg := { s.seg with cs := 0xF000 }
      ip := 0xFFF0
      flags := Flags.unpack s.cfg.flagsReset
      ctx := DecodeCtx.clear } := rfl

end Sys2Proof.Machine
end

