-- ==== Sys2Proof/Laws/Changes.lean ====
section
/-! SUPPORT. How the record of an instruction's changes grows with each named operation: one lemma per operation, so that the
changes of an instruction are read off its definition. -/

namespace Sys2Proof.Machine

/-! ### Byte stores -/

@[simp] theorem byteAfter_nil (s : State) (a : Nat) : byteAfter s [] a = s.readByte a := rfl

/-- The last store decides. -/
theorem byteAfter_snoc (s : State) (l : List (Nat × Byte)) (p : Nat × Byte) (a : Nat) :
    byteAfter s (l ++ [p]) a = if p.1 % s.ramSize = a % s.ramSize then p.2 else byteAfter s l a := by
  unfold byteAfter
  rw [List.reverse_append, List.reverse_singleton, List.singleton_append, List.find?_cons]
  by_cases h : p.1 % s.ramSize = a % s.ramSize
  · simp [h]
  · rw [if_neg h, show (p.1 % s.ramSize == a % s.ramSize) = false from beq_eq_false_iff_ne.2 h]

/-- Two stores are one store and another after it. -/
theorem append_pair {α : Type} (l : List α) (a b : α) : l ++ [a, b] = l ++ [a] ++ [b] := by simp

/-! ### The record of changes -/

variable {c : Changes} {s t : State}

theorem changed_keep (s : State) : Changed (Changes.keep s) s s where
  gpr := rfl
  seg := rfl
  ip := rfl
  mem _ := rfl
  events := by simp [Changes.keep]
  draws := rfl
  ports := rfl
  ctx := rfl
  halt := rfl
  hooks := rfl
  cfg := rfl

theorem Changed.ramSize (h : Changed c s t) : t.ramSize = s.ramSize := by unfold State.ramSize; rw [h.cfg]

theorem Changed.setFlags (h : Changed c s t) (f : Flags) : Changed c s (t.setFlags f) := { h with }

theorem Changed.setReg16 (h : Changed c s t) (r : Reg16) (v : Word) :
    Changed { c with gpr := c.gpr.set r v } s (t.setReg16 r v) :=
  { h with gpr := congrArg (fun g => Gpr.set g r v) h.gpr }

theorem Changed.setSreg (h : Changed c s t) (r : SReg) (v : Word) :
    Changed { c with seg := c.seg.set r v } s (t.setSreg r v) :=
  { h with seg := congrArg (fun g => Segs.set g r v) h.seg }

theorem Changed.setIp (h : Changed c s t) (v : Word) : Changed { c with ip := v } s (t.setIp v) := { h with ip := rfl }

theorem Changed.tookDraws (h : Changed c s t) (n : Nat) : Changed { c with draws := c.draws + n } s (t.tookDraws n) :=
  { h with draws := by show t.drawCount + n = _; rw [h.draws, Nat.add_assoc] }

/-- The two readings of a byte register write agree: halves put together, and the masks of R24. -/
theorem setReg8_gpr (s : State) (r : Reg8) (v : Byte) : (s.setReg8 r v).gpr = put8 s.gpr r v := by
  have hi : ∀ w : Word, wordOf v (loByte w) = (w &&& 0x00FF#16) ||| (v.setWidth 16 <<< 8) := by
    intro w
    apply BitVec.eq_of_getLsbD_eq
    intro i hi
    simp only [wordOf, loByte, BitVec.getLsbD_append, BitVec.getLsbD_or, BitVec.getLsbD_and, BitVec.getLsbD_shiftLeft,
      BitVec.getLsbD_extractLsb', BitVec.getLsbD_setWidth]
    revert i hi
    apply bit_cases <;> simp
  have lo : ∀ w : Word, wordOf (hiByte w) v = (w &&& 0xFF00#16) ||| v.setWidth 16 := by
    intro w
    apply BitVec.eq_of_getLsbD_eq
    intro i hi
    simp only [wordOf, hiByte, BitVec.getLsbD_append, BitVec.getLsbD_or, BitVec.getLsbD_and,
      BitVec.getLsbD_extractLsb', BitVec.getLsbD_setWidth]
    revert i hi
    apply bit_cases <;> simp
  unfold put8 State.setReg8 State.reg16
  rw [State.setReg16_gpr, hi, lo]
  split <;> rfl

theorem Changed.setReg8 (h : Changed c s t) (r : Reg8) (v : Byte) :
    Changed { c with gpr := put8 c.gpr r v } s (t.setReg8 r v) :=
  { h with gpr := by rw [setReg8_gpr, h.gpr] }

/-- A byte store, before any port access. -/
theorem Changed.writeByte (h : Changed c s t) (hp : c.ports = []) (a : Nat) (v : Byte) :
    Changed { c with stores := c.stores ++ [(a, v)] } s (t.writeByte a v) := by
  have hr := h.ramSize
  have he : (t.writeByte a v).events = t.events ++ hookOf s (a, v) := by
    unfold State.writeByte State.hookEvent hookOf
    rw [h.hooks]
    split
    · rfl
    · simp
  obtain ⟨l, e⟩ := t.writeByte_eq a v
  refine { h with
    gpr := by rw [e]; exact h.gpr
    seg := by rw [e]; exact h.seg
    ip := by rw [e]; exact h.ip
    mem := fun q => ?_
    events := ?_
    draws := by rw [e]; exact h.draws
    ports := by rw [e]; exact h.ports
    ctx := by rw [e]; exact h.ctx
    halt := by rw [e]; exact h.halt
    hooks := by rw [e]; exact h.hooks
    cfg := by rw [e]; exact h.cfg }
  · rw [byteAfter_snoc]
    by_cases hq : a % s.ramSize = q % s.ramSize
    · rw [if_pos hq]
      show Memory.get (t.writeByte a v).mem (q % (t.writeByte a v).ramSize) = v
      rw [State.writeByte_mem, State.writeByte_ramSize, hr, hq, Memory.get_set_same]
    · rw [if_neg hq, State.readByte_writeByte_of_ne t v (by rw [hr]; exact fun x => hq x.symm), h.mem]
  · rw [he, h.events, hp]
    simp

/-- R67: a word store at a physical address, before any port access. -/
theorem Changed.writeWordPhys (h : Changed c s t) (hp : c.ports = []) (a : Nat) (v : Word) :
    Changed { c with stores := c.stores ++ [(a, loByte v), (a + 1, hiByte v)] } s (t.writeWordPhys a v) := by
  rw [append_pair]
  exact (h.writeByte hp a (loByte v)).writeByte hp (a + 1) (hiByte v)

/-- R71: a segmented word store, before any port access. -/
theorem Changed.write16 (h : Changed c s t) (hp : c.ports = []) (seg off v : Word) :
    Changed { c with stores := c.stores ++ wordStores s.cfg.arch seg off v } s (t.write16 seg off v) := by
  have := (h.writeByte hp (translate seg off.toNat) (loByte v)).writeByte hp (highByteAddr s.cfg.arch seg off) (hiByte v)
  unfold wordStores
  rw [append_pair]
  unfold State.write16
  rw [h.cfg]
  exact this

/-- R148: a byte operand written. -/
theorem Changed.writeE8 (h : Changed c s t) (hp : c.ports = []) (o : Operand Reg8) (v : Byte) :
    Changed (c.putE8 o v) s (t.writeE8 o v) := by
  cases o with
  | register r => exact h.setReg8 r v
  | memory seg off => exact h.writeByte hp _ v

/-- R148: a word operand written. -/
theorem Changed.writeE16 (h : Changed c s t) (hp : c.ports = []) (o : Operand Reg16) (v : Word) :
    Changed (c.putE16 s.cfg.arch o v) s (t.writeE16 o v) := by
  cases o with
  | register r => exact h.setReg16 r v
  | memory seg off => exact h.write16 hp seg off v

/-- R340: a word pushed. -/
theorem Changed.push16 (h : Changed c s t) (hp : c.ports = []) (v : Word) : Changed (c.push s.cfg.arch v) s (t.push16 v) := by
  have hs : t.reg16 .sp - 2 = c.gpr.sp - 2 := by rw [← h.gpr]; rfl
  have hss : t.sreg .ss = c.seg.ss := by rw [← h.seg]; rfl
  unfold State.push16
  rw [hs, hss]
  exact (h.setReg16 .sp (c.gpr.sp - 2)).write16 hp c.seg.ss (c.gpr.sp - 2) v

@[simp] theorem Changes.putE8_ports (c : Changes) (o : Operand Reg8) (v : Byte) : (c.putE8 o v).ports = c.ports := by cases o <;> rfl

@[simp] theorem Changes.putE16_ports (c : Changes) (arch : Arch) (o : Operand Reg16) (v : Word) :
    (c.putE16 arch o v).ports = c.ports := by cases o <;> rfl

@[simp] theorem Changes.putE8_draws (c : Changes) (o : Operand Reg8) (v : Byte) : (c.putE8 o v).draws = c.draws := by cases o <;> rfl

@[simp] theorem Changes.putE16_draws (c : Changes) (arch : Arch) (o : Operand Reg16) (v : Word) :
    (c.putE16 arch o v).draws = c.draws := by cases o <;> rfl

@[simp] theorem State.writeE8_flags (s : State) (o : Operand Reg8) (v : Byte) : (s.writeE8 o v).flags = s.flags := by
  obtain ⟨g, m, l, h⟩ := s.writeE8_eq o v; rw [h]

@[simp] theorem State.writeE16_flags (s : State) (o : Operand Reg16) (v : Word) : (s.writeE16 o v).flags = s.flags := by
  obtain ⟨g, m, l, h⟩ := s.writeE16_eq o v; rw [h]

/-- The word at a physical address after the changes. -/
theorem Changed.readWordPhys (h : Changed c s t) (a : Nat) : t.readWordPhys a = wordAfter s c.stores a := by
  apply BitVec.eq_of_toNat_eq
  have h1 := (byteAfter s c.stores a).isLt
  have h2 := (byteAfter s c.stores (a + 1)).isLt
  unfold State.readWordPhys wordAfter
  rw [wordOf_toNat, h.mem, h.mem, BitVec.toNat_ofNat]
  omega

/-- R506: an interrupt entry, completely. -/
theorem changed_interrupt (s : State) (n : Byte) : Changed (interruptChanges s n.toNat) s (s.interrupt n) := by
  have hp := (((changed_keep s).push16 rfl s.flags.pack).push16 rfl s.seg.cs).push16 rfl s.ip
  rw [State.interrupt_eq]
  unfold interruptChanges
  revert hp
  generalize (((Changes.keep s).push s.cfg.arch s.flags.pack).push s.cfg.arch s.seg.cs).push s.cfg.arch s.ip = p
  generalize ((s.push16 s.flags.pack).push16 s.seg.cs).push16 s.ip = t
  intro hp
  rw [hp.readWordPhys, hp.readWordPhys]
  exact { hp with ip := rfl, seg := rfl }

@[simp] theorem State.interrupt_flags (s : State) (n : Byte) : (s.interrupt n).flags = interruptFlags s.flags := by
  rw [State.interrupt_eq]; rfl

end Sys2Proof.Machine
end

