-- ==== Sys2Proof/Laws/Decode.lean ====
section
/-! SUPPORT. The decoder: what each reader consumes, and that six bytes are always enough (R101), so that a fetch never fails. -/

namespace Sys2Proof.Laws

open Sys2Proof Sys2Proof.Machine

/-- A reader that answers whenever it is given at least `n` bytes, and takes at most `n`. -/
def Takes {α : Type} (n : Nat) (read : List Byte → Parsed α) : Prop :=
  ∀ bs, n ≤ bs.length → ∃ a rest, read bs = .ok (a, rest) ∧ rest.length ≤ bs.length ∧ bs.length ≤ rest.length + n

theorem Takes.mono {α : Type} {m n : Nat} {read : List Byte → Parsed α} (h : Takes m read) (hmn : m ≤ n) : Takes n read := by
  intro bs hb
  obtain ⟨a, rest, e, h1, h2⟩ := h bs (Nat.le_trans hmn hb)
  exact ⟨a, rest, e, h1, by omega⟩

theorem takes_pure {α : Type} (a : α) : Takes 0 (fun bs => (.ok (a, bs) : Parsed α)) :=
  fun bs _ => ⟨a, bs, rfl, Nat.le_refl _, Nat.le_refl _⟩

theorem takes_byte : Takes 1 takeByte
  | [], h => absurd h (by decide)
  | b :: bs, _ => ⟨b, bs, rfl, by simp, by simp⟩

theorem takes_word : Takes 2 takeWord
  | [], h => absurd h (by decide)
  | [_], h => absurd h (by simp)
  | lo :: hi :: bs, _ => ⟨hi ++ lo, bs, rfl, by simp; omega, by simp⟩

theorem takes_wrap {α β : Type} {n : Nat} {read : List Byte → Parsed α} (h : Takes n read) (k : α → β) :
    Takes n (fun bs => Parsed.wrap (read bs) k) := by
  intro bs hb
  obtain ⟨a, rest, e, h1, h2⟩ := h bs hb
  exact ⟨k a, rest, by simp [Parsed.wrap, Parsed.andThen, e], h1, h2⟩

theorem takes_andThen {α β : Type} {m n : Nat} {read : List Byte → Parsed α} {next : α → List Byte → Parsed β}
    (h : Takes m read) (hn : ∀ a, Takes n (next a)) : Takes (m + n) (fun bs => Parsed.andThen (read bs) next) := by
  intro bs hb
  obtain ⟨a, rest, e, h1, h2⟩ := h bs (by omega)
  obtain ⟨b, rest', e', h1', h2'⟩ := hn a rest (by omega)
  exact ⟨b, rest', by simp [Parsed.andThen, e, e'], by omega, by omega⟩

theorem takes_mem (mod : BitVec 2) (rm : BitVec 3) : Takes 2 (takeMem mod rm) := by
  unfold takeMem
  split
  · split
    · exact takes_wrap takes_word _
    · exact (takes_pure _).mono (by decide)
  · split
    · exact (takes_wrap takes_byte _).mono (by decide)
    · exact takes_wrap takes_word _

theorem takes_rm {ρ : Type} (ofBits : BitVec 3 → ρ) (m : Byte) : Takes 2 (takeRm ofBits m) := by
  unfold takeRm
  split
  · exact (takes_pure _).mono (by decide)
  · exact takes_wrap (takes_mem _ _) _

theorem takes_group (op m : Byte) (f : GroupForm) : Takes 4 (parseGroup op m f) := by
  cases f with
  | reserved => exact (takes_pure _).mono (by decide)
  | eb k => exact (takes_wrap (takes_rm _ m) _).mono (by decide)
  | ev k => exact (takes_wrap (takes_rm _ m) _).mono (by decide)
  | ebib k => exact (takes_andThen (takes_rm _ m) (fun _ => takes_wrap takes_byte _)).mono (by decide)
  | eviv k => exact takes_andThen (takes_rm _ m) (fun _ => takes_wrap takes_word _)
  | evib k => exact (takes_andThen (takes_rm _ m) (fun _ => takes_wrap takes_byte _)).mono (by decide)
  | m k =>
    show Takes 4 (fun bs => parseGroup op m (.m k) bs)
    unfold parseGroup
    by_cases h : modField m = 3#2
    · simp only [h, if_true]; exact (takes_pure _).mono (by decide)
    · simp only [h, if_false]; exact (takes_wrap (takes_mem _ _) _).mono (by decide)

theorem takes_modrm (op m : Byte) (f : ModrmForm) : Takes 4 (parseModrm op m f) := by
  cases f with
  | ebgb k => exact (takes_wrap (takes_rm _ m) _).mono (by decide)
  | evgv k => exact (takes_wrap (takes_rm _ m) _).mono (by decide)
  | evsw k =>
    show Takes 4 (fun bs => parseModrm op m (.evsw k) bs)
    unfold parseModrm
    cases h : SReg.ofBits (regField m) with
    | none => exact (takes_pure _).mono (by decide)
    | some sr => exact (takes_wrap (takes_rm _ m) _).mono (by decide)
  | gvm k =>
    show Takes 4 (fun bs => parseModrm op m (.gvm k) bs)
    unfold parseModrm
    by_cases h : modField m = 3#2
    · simp only [h, if_true]; exact (takes_pure _).mono (by decide)
    · simp only [h, if_false]; exact (takes_wrap (takes_mem _ _) _).mono (by decide)
  | group k => exact takes_group op m _

theorem takes_form (op : Byte) (f : Form) : Takes 5 (parseForm op f) := by
  cases f with
  | unassigned => exact (takes_pure _).mono (by decide)
  | bare i => exact (takes_pure _).mono (by decide)
  | imm8 k => exact (takes_wrap takes_byte _).mono (by decide)
  | imm16 k => exact (takes_wrap takes_word _).mono (by decide)
  | far k => exact (takes_andThen takes_word (fun _ => takes_wrap takes_word _)).mono (by decide)
  | modrm f => exact takes_andThen takes_byte (fun m => takes_modrm op m f)

/-- R101: given at least six bytes the decoder always answers, and it takes from one to six of them. -/
theorem decode_window (bs : List Byte) (h : 6 ≤ bs.length) :
    ∃ i rest, decode bs = .ok (i, rest) ∧ rest.length < bs.length ∧ bs.length ≤ rest.length + 6 := by
  cases bs with
  | nil => exact absurd h (by decide)
  | cons op bs =>
    obtain ⟨i, rest, e, h1, h2⟩ := takes_form op (opcodeMap op) bs (by simpa using h)
    exact ⟨i, rest, e, by simp; omega, by simp; omega⟩

/-- A fetch always answers: `Refusal.truncatedFetch` is never raised. -/
theorem fetchDecode_isSome (s : State) : s.fetchDecode.isSome = true := by
  obtain ⟨i, rest, e, -⟩ := decode_window (s.fetchWindow maxLength) (by simp [State.fetchWindow, maxLength])
  simp [State.fetchDecode, e]

/-! ### The encoder's pieces -/

@[simp] theorem Reg16.ofBits_bits (r : Reg16) : Reg16.ofBits r.bits = r := by cases r <;> rfl

@[simp] theorem Reg8.ofBits_bits (r : Reg8) : Reg8.ofBits r.bits = r := by cases r <;> rfl

@[simp] theorem Base.ofBits_bits (b : Base) : Base.ofBits b.bits = b := by cases b <;> rfl

@[simp] theorem SReg.ofBits_bits3 (r : SReg) : SReg.ofBits r.bits3 = some r := by cases r <;> rfl

@[simp] theorem modField_modrmByte (mod : BitVec 2) (reg rm : BitVec 3) : modField (modrmByte mod reg rm) = mod := by
  revert mod reg rm; decide

@[simp] theorem regField_modrmByte (mod : BitVec 2) (reg rm : BitVec 3) : regField (modrmByte mod reg rm) = reg := by
  revert mod reg rm; decide

@[simp] theorem rmField_modrmByte (mod : BitVec 2) (reg rm : BitVec 3) : rmField (modrmByte mod reg rm) = rm := by
  revert mod reg rm; decide

theorem takeWord_wordBytes (v : Word) (rest : List Byte) : takeWord (wordBytes v ++ rest) = .ok (v, rest) := by
  have h : (v.extractLsb' 8 8 ++ v.extractLsb' 0 8 : BitVec (8 + 8)) = v := by
    apply BitVec.eq_of_toNat_eq
    have hv : v.toNat < 65536 := v.isLt
    rw [BitVec.toNat_append, BitVec.extractLsb'_toNat, BitVec.extractLsb'_toNat,
      ← Nat.shiftLeft_add_eq_or_of_lt (Nat.mod_lt _ (by decide)), Nat.shiftLeft_eq, Nat.shiftRight_eq_div_pow,
      Nat.shiftRight_eq_div_pow]
    omega
  show (.ok (_, rest) : Parsed Word) = _
  exact congrArg (fun x => (.ok (x, rest) : Parsed Word)) h

end Sys2Proof.Laws
end

