-- ==== Sys2Proof/Laws/PerInstr.lean ====
section
/-! SUPPORT. Statements made per instruction: the length of an encoding without prefixes (R101). -/

namespace Sys2Proof.Laws

open Sys2Proof

theorem length_encMem (m : MemRef) (reg : BitVec 3) : 1 ≤ (encMem m reg).length ∧ (encMem m reg).length ≤ 3 := by
  cases m with
  | direct d => exact ⟨by simp [encMem], by simp [encMem, wordBytes]⟩
  | based b d => cases d <;> simp [encMem, wordBytes]

theorem length_encRm {ρ : Type} (bits : ρ → BitVec 3) (e : Rm ρ) (reg : BitVec 3) :
    1 ≤ (encRm bits e reg).length ∧ (encRm bits e reg).length ≤ 3 := by
  cases e with
  | reg r => simp [encRm]
  | mem m => exact length_encMem m reg

namespace EncodingLength

/-- R101: an instruction without prefixes is 1 to 6 bytes long. -/
def Statement (i : Instr) : Prop := 1 ≤ (encode i).length ∧ (encode i).length ≤ 6

theorem of_rm {ρ : Type} (op : Byte) (bits : ρ → BitVec 3) (e : Rm ρ) (reg : BitVec 3) :
    1 ≤ (op :: encRm bits e reg).length ∧ (op :: encRm bits e reg).length ≤ 6 := by
  have := length_encRm bits e reg
  simp only [List.length_cons]; omega

theorem of_rm_imm {ρ : Type} (op : Byte) (bits : ρ → BitVec 3) (e : Rm ρ) (reg : BitVec 3) (imm : List Byte)
    (h : imm.length ≤ 2) :
    1 ≤ (op :: encRm bits e reg ++ imm).length ∧ (op :: encRm bits e reg ++ imm).length ≤ 6 := by
  have := length_encRm bits e reg
  simp only [List.length_append, List.length_cons]; omega

theorem of_mem (op : Byte) (m : MemRef) (reg : BitVec 3) :
    1 ≤ (op :: encMem m reg).length ∧ (op :: encMem m reg).length ≤ 6 := by
  have := length_encMem m reg
  simp only [List.length_cons]; omega

theorem of_literal (l : List Byte) (h : (decide (1 ≤ l.length) && decide (l.length ≤ 6)) = true) :
    1 ≤ l.length ∧ l.length ≤ 6 := by
  simpa using h

theorem addEbGb (e : Rm Reg8) (g : Reg8) : Statement (.addEbGb e g) := of_rm _ _ _ _
theorem addEvGv (e : Rm Reg16) (g : Reg16) : Statement (.addEvGv e g) := of_rm _ _ _ _
theorem addGbEb (g : Reg8) (e : Rm Reg8) : Statement (.addGbEb g e) := of_rm _ _ _ _
theorem addGvEv (g : Reg16) (e : Rm Reg16) : Statement (.addGvEv g e) := of_rm _ _ _ _
theorem addAlIb (imm : Byte) : Statement (.addAlIb imm) := of_literal _ rfl
theorem addAxIv (imm : Word) : Statement (.addAxIv imm) := of_literal _ rfl
theorem orEbGb (e : Rm Reg8) (g : Reg8) : Statement (.orEbGb e g) := of_rm _ _ _ _
theorem orEvGv (e : Rm Reg16) (g : Reg16) : Statement (.orEvGv e g) := of_rm _ _ _ _
theorem orGbEb (g : Reg8) (e : Rm Reg8) : Statement (.orGbEb g e) := of_rm _ _ _ _
theorem orGvEv (g : Reg16) (e : Rm Reg16) : Statement (.orGvEv g e) := of_rm _ _ _ _
theorem orAlIb (imm : Byte) : Statement (.orAlIb imm) := of_literal _ rfl
theorem orAxIv (imm : Word) : Statement (.orAxIv imm) := of_literal _ rfl
theorem adcEbGb (e : Rm Reg8) (g : Reg8) : Statement (.adcEbGb e g) := of_rm _ _ _ _
theorem adcEvGv (e : Rm Reg16) (g : Reg16) : Statement (.adcEvGv e g) := of_rm _ _ _ _
theorem adcGbEb (g : Reg8) (e : Rm Reg8) : Statement (.adcGbEb g e) := of_rm _ _ _ _
theorem adcGvEv (g : Reg16) (e : Rm Reg16) : Statement (.adcGvEv g e) := of_rm _ _ _ _
theorem adcAlIb (imm : Byte) : Statement (.adcAlIb imm) := of_literal _ rfl
theorem adcAxIv (imm : Word) : Statement (.adcAxIv imm) := of_literal _ rfl
theorem sbbEbGb (e : Rm Reg8) (g : Reg8) : Statement (.sbbEbGb e g) := of_rm _ _ _ _
theorem sbbEvGv (e : Rm Reg16) (g : Reg16) : Statement (.sbbEvGv e g) := of_rm _ _ _ _
theorem sbbGbEb (g : Reg8) (e : Rm Reg8) : Statement (.sbbGbEb g e) := of_rm _ _ _ _
theorem sbbGvEv (g : Reg16) (e : Rm Reg16) : Statement (.sbbGvEv g e) := of_rm _ _ _ _
theorem sbbAlIb (imm : Byte) : Statement (.sbbAlIb imm) := of_literal _ rfl
theorem sbbAxIv (imm : Word) : Statement (.sbbAxIv imm) := of_literal _ rfl
theorem andEbGb (e : Rm Reg8) (g : Reg8) : Statement (.andEbGb e g) := of_rm _ _ _ _
theorem andEvGv (e : Rm Reg16) (g : Reg16) : Statement (.andEvGv e g) := of_rm _ _ _ _
theorem andGbEb (g : Reg8) (e : Rm Reg8) : Statement (.andGbEb g e) := of_rm _ _ _ _
theorem andGvEv (g : Reg16) (e : Rm Reg16) : Statement (.andGvEv g e) := of_rm _ _ _ _
theorem andAlIb (imm : Byte) : Statement (.andAlIb imm) := of_literal _ rfl
theorem andAxIv (imm : Word) : Statement (.andAxIv imm) := of_literal _ rfl
theorem subEbGb (e : Rm Reg8) (g : Reg8) : Statement (.subEbGb e g) := of_rm _ _ _ _
theorem subEvGv (e : Rm Reg16) (g : Reg16) : Statement (.subEvGv e g) := of_rm _ _ _ _
theorem subGbEb (g : Reg8) (e : Rm Reg8) : Statement (.subGbEb g e) := of_rm _ _ _ _
theorem subGvEv (g : Reg16) (e : Rm Reg16) : Statement (.subGvEv g e) := of_rm _ _ _ _
theorem subAlIb (imm : Byte) : Statement (.subAlIb imm) := of_literal _ rfl
theorem subAxIv (imm : Word) : Statement (.subAxIv imm) := of_literal _ rfl
theorem xorEbGb (e : Rm Reg8) (g : Reg8) : Statement (.xorEbGb e g) := of_rm _ _ _ _
theorem xorEvGv (e : Rm Reg16) (g : Reg16) : Statement (.xorEvGv e g) := of_rm _ _ _ _
theorem xorGbEb (g : Reg8) (e : Rm Reg8) : Statement (.xorGbEb g e) := of_rm _ _ _ _
theorem xorGvEv (g : Reg16) (e : Rm Reg16) : Statement (.xorGvEv g e) := of_rm _ _ _ _
theorem xorAlIb (imm : Byte) : Statement (.xorAlIb imm) := of_literal _ rfl
theorem xorAxIv (imm : Word) : Statement (.xorAxIv imm) := of_literal _ rfl
theorem cmpEbGb (e : Rm Reg8) (g : Reg8) : Statement (.cmpEbGb e g) := of_rm _ _ _ _
theorem cmpEvGv (e : Rm Reg16) (g : Reg16) : Statement (.cmpEvGv e g) := of_rm _ _ _ _
theorem cmpGbEb (g : Reg8) (e : Rm Reg8) : Statement (.cmpGbEb g e) := of_rm _ _ _ _
theorem cmpGvEv (g : Reg16) (e : Rm Reg16) : Statement (.cmpGvEv g e) := of_rm _ _ _ _
theorem cmpAlIb (imm : Byte) : Statement (.cmpAlIb imm) := of_literal _ rfl
theorem cmpAxIv (imm : Word) : Statement (.cmpAxIv imm) := of_literal _ rfl
theorem addEbIb (e : Rm Reg8) (imm : Byte) : Statement (.addEbIb e imm) := of_rm_imm _ _ _ _ _ (Nat.le_succ 1)
theorem addEvIv (e : Rm Reg16) (imm : Word) : Statement (.addEvIv e imm) := of_rm_imm _ _ _ _ _ (Nat.le_refl 2)
theorem addEbIb82 (e : Rm Reg8) (imm : Byte) : Statement (.addEbIb82 e imm) := of_rm_imm _ _ _ _ _ (Nat.le_succ 1)
theorem addEvIbs (e : Rm Reg16) (imm : Byte) : Statement (.addEvIbs e imm) := of_rm_imm _ _ _ _ _ (Nat.le_succ 1)
theorem orEbIb (e : Rm Reg8) (imm : Byte) : Statement (.orEbIb e imm) := of_rm_imm _ _ _ _ _ (Nat.le_succ 1)
theorem orEvIv (e : Rm Reg16) (imm : Word) : Statement (.orEvIv e imm) := of_rm_imm _ _ _ _ _ (Nat.le_refl 2)
theorem orEbIb82 (e : Rm Reg8) (imm : Byte) : Statement (.orEbIb82 e imm) := of_rm_imm _ _ _ _ _ (Nat.le_succ 1)
theorem orEvIbs (e : Rm Reg16) (imm : Byte) : Statement (.orEvIbs e imm) := of_rm_imm _ _ _ _ _ (Nat.le_succ 1)
theorem adcEbIb (e : Rm Reg8) (imm : Byte) : Statement (.adcEbIb e imm) := of_rm_imm _ _ _ _ _ (Nat.le_succ 1)
theorem adcEvIv (e : Rm Reg16) (imm : Word) : Statement (.adcEvIv e imm) := of_rm_imm _ _ _ _ _ (Nat.le_refl 2)
theorem adcEbIb82 (e : Rm Reg8) (imm : Byte) : Statement (.adcEbIb82 e imm) := of_rm_imm _ _ _ _ _ (Nat.le_succ 1)
theorem adcEvIbs (e : Rm Reg16) (imm : Byte) : Statement (.adcEvIbs e imm) := of_rm_imm _ _ _ _ _ (Nat.le_succ 1)
theorem sbbEbIb (e : Rm Reg8) (imm : Byte) : Statement (.sbbEbIb e imm) := of_rm_imm _ _ _ _ _ (Nat.le_succ 1)
theorem sbbEvIv (e : Rm Reg16) (imm : Word) : Statement (.sbbEvIv e imm) := of_rm_imm _ _ _ _ _ (Nat.le_refl 2)
theorem sbbEbIb82 (e : Rm Reg8) (imm : Byte) : Statement (.sbbEbIb82 e imm) := of_rm_imm _ _ _ _ _ (Nat.le_succ 1)
theorem sbbEvIbs (e : Rm Reg16) (imm : Byte) : Statement (.sbbEvIbs e imm) := of_rm_imm _ _ _ _ _ (Nat.le_succ 1)
theorem andEbIb (e : Rm Reg8) (imm : Byte) : Statement (.andEbIb e imm) := of_rm_imm _ _ _ _ _ (Nat.le_succ 1)
theorem andEvIv (e : Rm Reg16) (imm : Word) : Statement (.andEvIv e imm) := of_rm_imm _ _ _ _ _ (Nat.le_refl 2)
theorem andEbIb82 (e : Rm Reg8) (imm : Byte) : Statement (.andEbIb82 e imm) := of_rm_imm _ _ _ _ _ (Nat.le_succ 1)
theorem andEvIbs (e : Rm Reg16) (imm : Byte) : Statement (.andEvIbs e imm) := of_rm_imm _ _ _ _ _ (Nat.le_succ 1)
theorem subEbIb (e : Rm Reg8) (imm : Byte) : Statement (.subEbIb e imm) := of_rm_imm _ _ _ _ _ (Nat.le_succ 1)
theorem subEvIv (e : Rm Reg16) (imm : Word) : Statement (.subEvIv e imm) := of_rm_imm _ _ _ _ _ (Nat.le_refl 2)
theorem subEbIb82 (e : Rm Reg8) (imm : Byte) : Statement (.subEbIb82 e imm) := of_rm_imm _ _ _ _ _ (Nat.le_succ 1)
theorem subEvIbs (e : Rm Reg16) (imm : Byte) : Statement (.subEvIbs e imm) := of_rm_imm _ _ _ _ _ (Nat.le_succ 1)
theorem xorEbIb (e : Rm Reg8) (imm : Byte) : Statement (.xorEbIb e imm) := of_rm_imm _ _ _ _ _ (Nat.le_succ 1)
theorem xorEvIv (e : Rm Reg16) (imm : Word) : Statement (.xorEvIv e imm) := of_rm_imm _ _ _ _ _ (Nat.le_refl 2)
theorem xorEbIb82 (e : Rm Reg8) (imm : Byte) : Statement (.xorEbIb82 e imm) := of_rm_imm _ _ _ _ _ (Nat.le_succ 1)
theorem xorEvIbs (e : Rm Reg16) (imm : Byte) : Statement (.xorEvIbs e imm) := of_rm_imm _ _ _ _ _ (Nat.le_succ 1)
theorem cmpEbIb (e : Rm Reg8) (imm : Byte) : Statement (.cmpEbIb e imm) := of_rm_imm _ _ _ _ _ (Nat.le_succ 1)
theorem cmpEvIv (e : Rm Reg16) (imm : Word) : Statement (.cmpEvIv e imm) := of_rm_imm _ _ _ _ _ (Nat.le_refl 2)
theorem cmpEbIb82 (e : Rm Reg8) (imm : Byte) : Statement (.cmpEbIb82 e imm) := of_rm_imm _ _ _ _ _ (Nat.le_succ 1)
theorem cmpEvIbs (e : Rm Reg16) (imm : Byte) : Statement (.cmpEvIbs e imm) := of_rm_imm _ _ _ _ _ (Nat.le_succ 1)
theorem testEbGb (e : Rm Reg8) (g : Reg8) : Statement (.testEbGb e g) := of_rm _ _ _ _
theorem testEvGv (e : Rm Reg16) (g : Reg16) : Statement (.testEvGv e g) := of_rm _ _ _ _
theorem testAlIb (imm : Byte) : Statement (.testAlIb imm) := of_literal _ rfl
theorem testAxIv (imm : Word) : Statement (.testAxIv imm) := of_literal _ rfl
theorem testEbIb (e : Rm Reg8) (imm : Byte) : Statement (.testEbIb e imm) := of_rm_imm _ _ _ _ _ (Nat.le_succ 1)
theorem testEvIv (e : Rm Reg16) (imm : Word) : Statement (.testEvIv e imm) := of_rm_imm _ _ _ _ _ (Nat.le_refl 2)
theorem incR16 (r : Reg16) : Statement (.incR16 r) := of_literal _ rfl
theorem incEb (e : Rm Reg8) : Statement (.incEb e) := of_rm _ _ _ _
theorem incEv (e : Rm Reg16) : Statement (.incEv e) := of_rm _ _ _ _
theorem decR16 (r : Reg16) : Statement (.decR16 r) := of_literal _ rfl
theorem decEb (e : Rm Reg8) : Statement (.decEb e) := of_rm _ _ _ _
theorem decEv (e : Rm Reg16) : Statement (.decEv e) := of_rm _ _ _ _
theorem notEb (e : Rm Reg8) : Statement (.notEb e) := of_rm _ _ _ _
theorem notEv (e : Rm Reg16) : Statement (.notEv e) := of_rm _ _ _ _
theorem negEb (e : Rm Reg8) : Statement (.negEb e) := of_rm _ _ _ _
theorem negEv (e : Rm Reg16) : Statement (.negEv e) := of_rm _ _ _ _
theorem daa : Statement .daa := of_literal _ rfl
theorem das : Statement .das := of_literal _ rfl
theorem aaa : Statement .aaa := of_literal _ rfl
theorem aas : Statement .aas := of_literal _ rfl
theorem aam (imm : Byte) : Statement (.aam imm) := of_literal _ rfl
theorem aad (imm : Byte) : Statement (.aad imm) := of_literal _ rfl
theorem rolEb1 (e : Rm Reg8) : Statement (.rolEb1 e) := of_rm _ _ _ _
theorem rolEv1 (e : Rm Reg16) : Statement (.rolEv1 e) := of_rm _ _ _ _
theorem rolEbCl (e : Rm Reg8) : Statement (.rolEbCl e) := of_rm _ _ _ _
theorem rolEvCl (e : Rm Reg16) : Statement (.rolEvCl e) := of_rm _ _ _ _
theorem rorEb1 (e : Rm Reg8) : Statement (.rorEb1 e) := of_rm _ _ _ _
theorem rorEv1 (e : Rm Reg16) : Statement (.rorEv1 e) := of_rm _ _ _ _
theorem rorEbCl (e : Rm Reg8) : Statement (.rorEbCl e) := of_rm _ _ _ _
theorem rorEvCl (e : Rm Reg16) : Statement (.rorEvCl e) := of_rm _ _ _ _
theorem rclEb1 (e : Rm Reg8) : Statement (.rclEb1 e) := of_rm _ _ _ _
theorem rclEv1 (e : Rm Reg16) : Statement (.rclEv1 e) := of_rm _ _ _ _
theorem rclEbCl (e : Rm Reg8) : Statement (.rclEbCl e) := of_rm _ _ _ _
theorem rclEvCl (e : Rm Reg16) : Statement (.rclEvCl e) := of_rm _ _ _ _
theorem rcrEb1 (e : Rm Reg8) : Statement (.rcrEb1 e) := of_rm _ _ _ _
theorem rcrEv1 (e : Rm Reg16) : Statement (.rcrEv1 e) := of_rm _ _ _ _
theorem rcrEbCl (e : Rm Reg8) : Statement (.rcrEbCl e) := of_rm _ _ _ _
theorem rcrEvCl (e : Rm Reg16) : Statement (.rcrEvCl e) := of_rm _ _ _ _
theorem shlEb1 (e : Rm Reg8) : Statement (.shlEb1 e) := of_rm _ _ _ _
theorem shlEv1 (e : Rm Reg16) : Statement (.shlEv1 e) := of_rm _ _ _ _
theorem shlEbCl (e : Rm Reg8) : Statement (.shlEbCl e) := of_rm _ _ _ _
theorem shlEvCl (e : Rm Reg16) : Statement (.shlEvCl e) := of_rm _ _ _ _
theorem shrEb1 (e : Rm Reg8) : Statement (.shrEb1 e) := of_rm _ _ _ _
theorem shrEv1 (e : Rm Reg16) : Statement (.shrEv1 e) := of_rm _ _ _ _
theorem shrEbCl (e : Rm Reg8) : Statement (.shrEbCl e) := of_rm _ _ _ _
theorem shrEvCl (e : Rm Reg16) : Statement (.shrEvCl e) := of_rm _ _ _ _
theorem sarEb1 (e : Rm Reg8) : Statement (.sarEb1 e) := of_rm _ _ _ _
theorem sarEv1 (e : Rm Reg16) : Statement (.sarEv1 e) := of_rm _ _ _ _
theorem sarEbCl (e : Rm Reg8) : Statement (.sarEbCl e) := of_rm _ _ _ _
theorem sarEvCl (e : Rm Reg16) : Statement (.sarEvCl e) := of_rm _ _ _ _
theorem mulEb (e : Rm Reg8) : Statement (.mulEb e) := of_rm _ _ _ _
theorem mulEv (e : Rm Reg16) : Statement (.mulEv e) := of_rm _ _ _ _
theorem imulEb (e : Rm Reg8) : Statement (.imulEb e) := of_rm _ _ _ _
theorem imulEv (e : Rm Reg16) : Statement (.imulEv e) := of_rm _ _ _ _
theorem divEb (e : Rm Reg8) : Statement (.divEb e) := of_rm _ _ _ _
theorem divEv (e : Rm Reg16) : Statement (.divEv e) := of_rm _ _ _ _
theorem idivEb (e : Rm Reg8) : Statement (.idivEb e) := of_rm _ _ _ _
theorem idivEv (e : Rm Reg16) : Statement (.idivEv e) := of_rm _ _ _ _
theorem movEbGb (e : Rm Reg8) (g : Reg8) : Statement (.movEbGb e g) := of_rm _ _ _ _
theorem movEvGv (e : Rm Reg16) (g : Reg16) : Statement (.movEvGv e g) := of_rm _ _ _ _
theorem movGbEb (g : Reg8) (e : Rm Reg8) : Statement (.movGbEb g e) := of_rm _ _ _ _
theorem movGvEv (g : Reg16) (e : Rm Reg16) : Statement (.movGvEv g e) := of_rm _ _ _ _
theorem movEwSw (e : Rm Reg16) (sr : SReg) : Statement (.movEwSw e sr) := of_rm _ _ _ _
theorem leaGvM (g : Reg16) (m : MemRef) : Statement (.leaGvM g m) := of_mem _ _ _
theorem movSwEw (sr : SReg) (e : Rm Reg16) : Statement (.movSwEw sr e) := of_rm _ _ _ _
theorem movAlOb (off : Word) : Statement (.movAlOb off) := of_literal _ rfl
theorem movAxOv (off : Word) : Statement (.movAxOv off) := of_literal _ rfl
theorem movObAl (off : Word) : Statement (.movObAl off) := of_literal _ rfl
theorem movOvAx (off : Word) : Statement (.movOvAx off) := of_literal _ rfl
theorem movR8Ib (r : Reg8) (imm : Byte) : Statement (.movR8Ib r imm) := of_literal _ rfl
theorem movR16Iv (r : Reg16) (imm : Word) : Statement (.movR16Iv r imm) := of_literal _ rfl
theorem movEbIb (e : Rm Reg8) (imm : Byte) : Statement (.movEbIb e imm) := of_rm_imm _ _ _ _ _ (Nat.le_succ 1)
theorem movEvIv (e : Rm Reg16) (imm : Word) : Statement (.movEvIv e imm) := of_rm_imm _ _ _ _ _ (Nat.le_refl 2)
theorem xchgEbGb (e : Rm Reg8) (g : Reg8) : Statement (.xchgEbGb e g) := of_rm _ _ _ _
theorem xchgEvGv (e : Rm Reg16) (g : Reg16) : Statement (.xchgEvGv e g) := of_rm _ _ _ _
theorem xchgAxCx : Statement .xchgAxCx := of_literal _ rfl
theorem xchgAxDx : Statement .xchgAxDx := of_literal _ rfl
theorem xchgAxBx : Statement .xchgAxBx := of_literal _ rfl
theorem xchgAxSp : Statement .xchgAxSp := of_literal _ rfl
theorem xchgAxBp : Statement .xchgAxBp := of_literal _ rfl
theorem xchgAxSi : Statement .xchgAxSi := of_literal _ rfl
theorem xchgAxDi : Statement .xchgAxDi := of_literal _ rfl
theorem lesGvMp (g : Reg16) (m : MemRef) : Statement (.lesGvMp g m) := of_mem _ _ _
theorem ldsGvMp (g : Reg16) (m : MemRef) : Statement (.ldsGvMp g m) := of_mem _ _ _
theorem xlat : Statement .xlat := of_literal _ rfl
theorem cbw : Statement .cbw := of_literal _ rfl
theorem cwd : Statement .cwd := of_literal _ rfl
theorem inAlIb (port : Byte) : Statement (.inAlIb port) := of_literal _ rfl
theorem inAxIb (port : Byte) : Statement (.inAxIb port) := of_literal _ rfl
theorem outIbAl (port : Byte) : Statement (.outIbAl port) := of_literal _ rfl
theorem outIbAx (port : Byte) : Statement (.outIbAx port) := of_literal _ rfl
theorem inAlDx : Statement .inAlDx := of_literal _ rfl
theorem inAxDx : Statement .inAxDx := of_literal _ rfl
theorem outDxAl : Statement .outDxAl := of_literal _ rfl
theorem outDxAx : Statement .outDxAx := of_literal _ rfl
theorem pushAx : Statement .pushAx := of_literal _ rfl
theorem pushCx : Statement .pushCx := of_literal _ rfl
theorem pushDx : Statement .pushDx := of_literal _ rfl
theorem pushBx : Statement .pushBx := of_literal _ rfl
theorem pushSp : Statement .pushSp := of_literal _ rfl
theorem pushBp : Statement .pushBp := of_literal _ rfl
theorem pushSi : Statement .pushSi := of_literal _ rfl
theorem pushDi : Statement .pushDi := of_literal _ rfl
theorem popR16 (r : Reg16) : Statement (.popR16 r) := of_literal _ rfl
theorem pushEv (e : Rm Reg16) : Statement (.pushEv e) := of_rm _ _ _ _
theorem popEv (e : Rm Reg16) : Statement (.popEv e) := of_rm _ _ _ _
theorem pushEs : Statement .pushEs := of_literal _ rfl
theorem pushCs : Statement .pushCs := of_literal _ rfl
theorem pushSs : Statement .pushSs := of_literal _ rfl
theorem pushDs : Statement .pushDs := of_literal _ rfl
theorem popEs : Statement .popEs := of_literal _ rfl
theorem popSs : Statement .popSs := of_literal _ rfl
theorem popDs : Statement .popDs := of_literal _ rfl
theorem pushf : Statement .pushf := of_literal _ rfl
theorem popf : Statement .popf := of_literal _ rfl
theorem movsb : Statement .movsb := of_literal _ rfl
theorem movsw : Statement .movsw := of_literal _ rfl
theorem cmpsb : Statement .cmpsb := of_literal _ rfl
theorem cmpsw : Statement .cmpsw := of_literal _ rfl
theorem stosb : Statement .stosb := of_literal _ rfl
theorem stosw : Statement .stosw := of_literal _ rfl
theorem lodsb : Statement .lodsb := of_literal _ rfl
theorem lodsw : Statement .lodsw := of_literal _ rfl
theorem scasb : Statement .scasb := of_literal _ rfl
theorem scasw : Statement .scasw := of_literal _ rfl
theorem jo (d : Byte) : Statement (.jo d) := of_literal _ rfl
theorem jno (d : Byte) : Statement (.jno d) := of_literal _ rfl
theorem jb (d : Byte) : Statement (.jb d) := of_literal _ rfl
theorem jnb (d : Byte) : Statement (.jnb d) := of_literal _ rfl
theorem je (d : Byte) : Statement (.je d) := of_literal _ rfl
theorem jne (d : Byte) : Statement (.jne d) := of_literal _ rfl
theorem jbe (d : Byte) : Statement (.jbe d) := of_literal _ rfl
theorem jnbe (d : Byte) : Statement (.jnbe d) := of_literal _ rfl
theorem js (d : Byte) : Statement (.js d) := of_literal _ rfl
theorem jns (d : Byte) : Statement (.jns d) := of_literal _ rfl
theorem jp (d : Byte) : Statement (.jp d) := of_literal _ rfl
theorem jnp (d : Byte) : Statement (.jnp d) := of_literal _ rfl
theorem jl (d : Byte) : Statement (.jl d) := of_literal _ rfl
theorem jnl (d : Byte) : Statement (.jnl d) := of_literal _ rfl
theorem jle (d : Byte) : Statement (.jle d) := of_literal _ rfl
theorem jnle (d : Byte) : Statement (.jnle d) := of_literal _ rfl
theorem jmpShort (d : Byte) : Statement (.jmpShort d) := of_literal _ rfl
theorem jmpNear (d : Word) : Statement (.jmpNear d) := of_literal _ rfl
theorem jmpEv (e : Rm Reg16) : Statement (.jmpEv e) := of_rm _ _ _ _
theorem jmpFar (off : Word) (seg : Word) : Statement (.jmpFar off seg) := of_literal _ rfl
theorem jmpMp (m : MemRef) : Statement (.jmpMp m) := of_mem _ _ _
theorem callNear (d : Word) : Statement (.callNear d) := of_literal _ rfl
theorem callEv (e : Rm Reg16) : Statement (.callEv e) := of_rm _ _ _ _
theorem callFar (off : Word) (seg : Word) : Statement (.callFar off seg) := of_literal _ rfl
theorem callMp (m : MemRef) : Statement (.callMp m) := of_mem _ _ _
theorem retNearIw (n : Word) : Statement (.retNearIw n) := of_literal _ rfl
theorem retNear : Statement .retNear := of_literal _ rfl
theorem retFarIw (n : Word) : Statement (.retFarIw n) := of_literal _ rfl
theorem retFar : Statement .retFar := of_literal _ rfl
theorem loopne (d : Byte) : Statement (.loopne d) := of_literal _ rfl
theorem loope (d : Byte) : Statement (.loope d) := of_literal _ rfl
theorem loop (d : Byte) : Statement (.loop d) := of_literal _ rfl
theorem jcxz (d : Byte) : Statement (.jcxz d) := of_literal _ rfl
theorem intIb (n : Byte) : Statement (.intIb n) := of_literal _ rfl
theorem unimplementedOpcode (op : Byte) : Statement (.unimplementedOpcode op) := of_literal _ rfl
theorem invalidOperandEncoding (op : Byte) (modrm : Byte) : Statement (.invalidOperandEncoding op modrm) := of_literal _ rfl
theorem clc : Statement .clc := of_literal _ rfl
theorem stc : Statement .stc := of_literal _ rfl
theorem cmc : Statement .cmc := of_literal _ rfl
theorem cli : Statement .cli := of_literal _ rfl
theorem sti : Statement .sti := of_literal _ rfl
theorem cld : Statement .cld := of_literal _ rfl
theorem std : Statement .std := of_literal _ rfl
theorem sahf : Statement .sahf := of_literal _ rfl
theorem lahf : Statement .lahf := of_literal _ rfl
theorem int3 : Statement .int3 := of_literal _ rfl
theorem into : Statement .into := of_literal _ rfl
theorem iret : Statement .iret := of_literal _ rfl
theorem hlt : Statement .hlt := of_literal _ rfl
theorem nop : Statement .nop := of_literal _ rfl
theorem prefixEs : Statement .prefixEs := of_literal _ rfl
theorem prefixCs : Statement .prefixCs := of_literal _ rfl
theorem prefixSs : Statement .prefixSs := of_literal _ rfl
theorem prefixDs : Statement .prefixDs := of_literal _ rfl
theorem lockF0 : Statement .lockF0 := of_literal _ rfl
theorem lockF1 : Statement .lockF1 := of_literal _ rfl
theorem repnz : Statement .repnz := of_literal _ rfl
theorem repz : Statement .repz := of_literal _ rfl

end EncodingLength

end Sys2Proof.Laws
end

