-- ==== Sys2Proof/Tests/Slice0.lean ====
section
/-! SUPPORT. Tests and witnesses. The expected results of the vectors are those of 95_test_vectors.md and
96_test_vectors_continued.md, under the vector's own number; the words are written out from the encodings of 30_encoding.md, the
rules each instruction has, and opcode_table.json. A theorem named `witness_<Obligation>` shows states and operands that meet all hypotheses of
that obligation together, at the boundary values of its clauses. -/

set_option maxRecDepth 100000

open Sys2Proof Sys2Proof.Machine Sys2Proof.Claims

namespace Sys2Proof.Tests

/-! ## Ill-formed terms -/

theorem test_wf_bp_without_displacement : (Instr.leaGvM .ax (.based .bp .none)).wf = false := by decide
theorem test_wf_byte_operand : (Instr.addEbGb (.mem (.based .bp .none)) .al).wf = false := by decide
theorem test_wf_word_operand : (Instr.movGvEv .ax (.mem (.based .bp .none))).wf = false := by decide
theorem test_wf_far_operand : (Instr.jmpMp (.based .bp .none)).wf = false := by decide
theorem test_wf_assigned_byte : (Instr.unimplementedOpcode 0x90).wf = false := by decide
theorem test_wf_allowed_encoding : (Instr.invalidOperandEncoding 0x8D 0x00).wf = false := by decide
theorem test_wf_good : (Instr.addEvIv (.mem (.based .bp (.d16 0x1234))) 0x5678).wf = true := by decide

/-! ## Every row of the opcode table, written out and decoded -/

/-- Each byte string decodes to the instruction beside it, with nothing left, and is that instruction's encoding. -/
def decodeTo (l : List (List Byte × Instr)) : Bool := l.all (fun p => decode p.1 == .ok (p.2, []) && encode p.2 == p.1)

theorem test_words_1 : decodeTo [
    ([0x00, 0x18], .addEbGb (.mem (.based .bxSi .none)) .bl), ([0x01, 0x71, 0x9A], .addEvGv (.mem (.based .bxDi (.d8 0x9A))) .si),
    ([0x02, 0x8A, 0x21, 0x43], .addGbEb .cl (.mem (.based .bpSi (.d16 0x4321)))), ([0x03, 0xE3], .addGvEv .sp (.reg .bx)),
    ([0x04, 0x85], .addAlIb 0x85), ([0x05, 0x34, 0x18], .addAxIv 0x1834),
    ([0x08, 0x2D], .orEbGb (.mem (.based .di .none)) .ch), ([0x09, 0x46, 0x9A], .orEvGv (.mem (.based .bp (.d8 0x9A))) .ax),
    ([0x0A, 0x9F, 0x21, 0x43], .orGbEb .bl (.mem (.based .bx (.d16 0x4321)))), ([0x0B, 0xF0], .orGvEv .si (.reg .ax)),
    ([0x0C, 0x8B], .orAlIb 0x8B), ([0x0D, 0x34, 0x1E], .orAxIv 0x1E34),
    ([0x10, 0x3A], .adcEbGb (.mem (.based .bpSi .none)) .bh), ([0x11, 0x53, 0x9A], .adcEvGv (.mem (.based .bpDi (.d8 0x9A))) .dx),
    ([0x12, 0xAC, 0x21, 0x43], .adcGbEb .ch (.mem (.based .si (.d16 0x4321)))), ([0x13, 0xC5], .adcGvEv .ax (.reg .bp)),
    ([0x14, 0x91], .adcAlIb 0x91), ([0x15, 0x34, 0x24], .adcAxIv 0x2434),
    ([0x18, 0x0F], .sbbEbGb (.mem (.based .bx .none)) .cl), ([0x19, 0x60, 0x9A], .sbbEvGv (.mem (.based .bxSi (.d8 0x9A))) .sp)] = true := by decide

theorem test_words_2 : decodeTo [
    ([0x1A, 0xB9, 0x21, 0x43], .sbbGbEb .bh (.mem (.based .bxDi (.d16 0x4321)))), ([0x1B, 0xD2], .sbbGvEv .dx (.reg .dx)),
    ([0x1C, 0x97], .sbbAlIb 0x97), ([0x1D, 0x34, 0x2A], .sbbAxIv 0x2A34),
    ([0x20, 0x1C], .andEbGb (.mem (.based .si .none)) .bl), ([0x21, 0x75, 0x9A], .andEvGv (.mem (.based .di (.d8 0x9A))) .si),
    ([0x22, 0x8E, 0x21, 0x43], .andGbEb .cl (.mem (.based .bp (.d16 0x4321)))), ([0x23, 0xE7], .andGvEv .sp (.reg .di)),
    ([0x24, 0x9D], .andAlIb 0x9D), ([0x25, 0x34, 0x30], .andAxIv 0x3034),
    ([0x28, 0x29], .subEbGb (.mem (.based .bxDi .none)) .ch), ([0x29, 0x42, 0x9A], .subEvGv (.mem (.based .bpSi (.d8 0x9A))) .ax),
    ([0x2A, 0x9B, 0x21, 0x43], .subGbEb .bl (.mem (.based .bpDi (.d16 0x4321)))), ([0x2B, 0xF4], .subGvEv .si (.reg .sp)),
    ([0x2C, 0xA3], .subAlIb 0xA3), ([0x2D, 0x34, 0x36], .subAxIv 0x3634),
    ([0x30, 0x3E, 0xCD, 0xAB], .xorEbGb (.mem (.direct 0xABCD)) .bh), ([0x31, 0x57, 0x9A], .xorEvGv (.mem (.based .bx (.d8 0x9A))) .dx),
    ([0x32, 0xA8, 0x21, 0x43], .xorGbEb .ch (.mem (.based .bxSi (.d16 0x4321)))), ([0x33, 0xC1], .xorGvEv .ax (.reg .cx))] = true := by decide

theorem test_words_3 : decodeTo [
    ([0x34, 0xA9], .xorAlIb 0xA9), ([0x35, 0x34, 0x3C], .xorAxIv 0x3C34),
    ([0x38, 0x0B], .cmpEbGb (.mem (.based .bpDi .none)) .cl), ([0x39, 0x64, 0x9A], .cmpEvGv (.mem (.based .si (.d8 0x9A))) .sp),
    ([0x3A, 0xBD, 0x21, 0x43], .cmpGbEb .bh (.mem (.based .di (.d16 0x4321)))), ([0x3B, 0xD6], .cmpGvEv .dx (.reg .si)),
    ([0x3C, 0xAF], .cmpAlIb 0xAF), ([0x3D, 0x34, 0x42], .cmpAxIv 0x4234),
    ([0x06], .pushEs), ([0x07], .popEs),
    ([0x0E], .pushCs), ([0x16], .pushSs),
    ([0x17], .popSs), ([0x1E], .pushDs),
    ([0x1F], .popDs), ([0x0F], .unimplementedOpcode 0x0F),
    ([0x26], .prefixEs), ([0x2E], .prefixCs),
    ([0x36], .prefixSs), ([0x3E], .prefixDs)] = true := by decide

theorem test_words_4 : decodeTo [
    ([0x27], .daa), ([0x2F], .das),
    ([0x37], .aaa), ([0x3F], .aas),
    ([0x40], .incR16 .ax), ([0x4B], .decR16 .bx),
    ([0x50], .pushAx), ([0x51], .pushCx),
    ([0x52], .pushDx), ([0x53], .pushBx),
    ([0x54], .pushSp), ([0x55], .pushBp),
    ([0x56], .pushSi), ([0x57], .pushDi),
    ([0x5E], .popR16 .si), ([0x60], .unimplementedOpcode 0x60),
    ([0x61], .unimplementedOpcode 0x61), ([0x62], .unimplementedOpcode 0x62),
    ([0x63], .unimplementedOpcode 0x63), ([0x64], .unimplementedOpcode 0x64)] = true := by decide

theorem test_words_5 : decodeTo [
    ([0x65], .unimplementedOpcode 0x65), ([0x66], .unimplementedOpcode 0x66),
    ([0x67], .unimplementedOpcode 0x67), ([0x68], .unimplementedOpcode 0x68),
    ([0x69], .unimplementedOpcode 0x69), ([0x6A], .unimplementedOpcode 0x6A),
    ([0x6B], .unimplementedOpcode 0x6B), ([0x6C], .unimplementedOpcode 0x6C),
    ([0x6D], .unimplementedOpcode 0x6D), ([0x6E], .unimplementedOpcode 0x6E),
    ([0x6F], .unimplementedOpcode 0x6F), ([0x70, 0x8B], .jo 0x8B),
    ([0x71, 0x8C], .jno 0x8C), ([0x72, 0x8D], .jb 0x8D),
    ([0x73, 0x8E], .jnb 0x8E), ([0x74, 0x8F], .je 0x8F),
    ([0x75, 0x90], .jne 0x90), ([0x76, 0x91], .jbe 0x91),
    ([0x77, 0x92], .jnbe 0x92), ([0x78, 0x93], .js 0x93)] = true := by decide

theorem test_words_6 : decodeTo [
    ([0x79, 0x94], .jns 0x94), ([0x7A, 0x95], .jp 0x95),
    ([0x7B, 0x96], .jnp 0x96), ([0x7C, 0x97], .jl 0x97),
    ([0x7D, 0x98], .jnl 0x98), ([0x7E, 0x99], .jle 0x99),
    ([0x7F, 0x9A], .jnle 0x9A), ([0x80, 0x00, 0x9B], .addEbIb (.mem (.based .bxSi .none)) 0x9B),
    ([0x80, 0x49, 0x9A, 0x9C], .orEbIb (.mem (.based .bxDi (.d8 0x9A))) 0x9C), ([0x80, 0x92, 0x21, 0x43, 0x9D], .adcEbIb (.mem (.based .bpSi (.d16 0x4321))) 0x9D),
    ([0x80, 0xDB, 0x9E], .sbbEbIb (.reg .bl) 0x9E), ([0x80, 0x25, 0x9F], .andEbIb (.mem (.based .di .none)) 0x9F),
    ([0x80, 0x6E, 0x9A, 0xA0], .subEbIb (.mem (.based .bp (.d8 0x9A))) 0xA0), ([0x80, 0xB7, 0x21, 0x43, 0xA1], .xorEbIb (.mem (.based .bx (.d16 0x4321))) 0xA1),
    ([0x80, 0xF8, 0xA2], .cmpEbIb (.reg .al) 0xA2), ([0x81, 0x02, 0x34, 0x35], .addEvIv (.mem (.based .bpSi .none)) 0x3534),
    ([0x81, 0x4B, 0x9A, 0x34, 0x36], .orEvIv (.mem (.based .bpDi (.d8 0x9A))) 0x3634), ([0x81, 0x94, 0x21, 0x43, 0x34, 0x37], .adcEvIv (.mem (.based .si (.d16 0x4321))) 0x3734),
    ([0x81, 0xDD, 0x34, 0x38], .sbbEvIv (.reg .bp) 0x3834), ([0x81, 0x27, 0x34, 0x39], .andEvIv (.mem (.based .bx .none)) 0x3934)] = true := by decide

theorem test_words_7 : decodeTo [
    ([0x81, 0x68, 0x9A, 0x34, 0x3A], .subEvIv (.mem (.based .bxSi (.d8 0x9A))) 0x3A34), ([0x81, 0xB1, 0x21, 0x43, 0x34, 0x3B], .xorEvIv (.mem (.based .bxDi (.d16 0x4321))) 0x3B34),
    ([0x81, 0xFA, 0x34, 0x3C], .cmpEvIv (.reg .dx) 0x3C34), ([0x82, 0x04, 0xAB], .addEbIb82 (.mem (.based .si .none)) 0xAB),
    ([0x82, 0x4D, 0x9A, 0xAC], .orEbIb82 (.mem (.based .di (.d8 0x9A))) 0xAC), ([0x82, 0x96, 0x21, 0x43, 0xAD], .adcEbIb82 (.mem (.based .bp (.d16 0x4321))) 0xAD),
    ([0x82, 0xDF, 0xAE], .sbbEbIb82 (.reg .bh) 0xAE), ([0x82, 0x21, 0xAF], .andEbIb82 (.mem (.based .bxDi .none)) 0xAF),
    ([0x82, 0x6A, 0x9A, 0xB0], .subEbIb82 (.mem (.based .bpSi (.d8 0x9A))) 0xB0), ([0x82, 0xB3, 0x21, 0x43, 0xB1], .xorEbIb82 (.mem (.based .bpDi (.d16 0x4321))) 0xB1),
    ([0x82, 0xFC, 0xB2], .cmpEbIb82 (.reg .ah) 0xB2), ([0x83, 0x06, 0xCD, 0xAB, 0xB3], .addEvIbs (.mem (.direct 0xABCD)) 0xB3),
    ([0x83, 0x4F, 0x9A, 0xB4], .orEvIbs (.mem (.based .bx (.d8 0x9A))) 0xB4), ([0x83, 0x90, 0x21, 0x43, 0xB5], .adcEvIbs (.mem (.based .bxSi (.d16 0x4321))) 0xB5),
    ([0x83, 0xD9, 0xB6], .sbbEvIbs (.reg .cx) 0xB6), ([0x83, 0x23, 0xB7], .andEvIbs (.mem (.based .bpDi .none)) 0xB7),
    ([0x83, 0x6C, 0x9A, 0xB8], .subEvIbs (.mem (.based .si (.d8 0x9A))) 0xB8), ([0x83, 0xB5, 0x21, 0x43, 0xB9], .xorEvIbs (.mem (.based .di (.d16 0x4321))) 0xB9),
    ([0x83, 0xFE, 0xBA], .cmpEvIbs (.reg .si) 0xBA), ([0x84, 0x08], .testEbGb (.mem (.based .bxSi .none)) .cl)] = true := by decide

theorem test_words_8 : decodeTo [
    ([0x85, 0x61, 0x9A], .testEvGv (.mem (.based .bxDi (.d8 0x9A))) .sp), ([0x86, 0xBA, 0x21, 0x43], .xchgEbGb (.mem (.based .bpSi (.d16 0x4321))) .bh),
    ([0x87, 0xD3], .xchgEvGv (.reg .bx) .dx), ([0x88, 0x2D], .movEbGb (.mem (.based .di .none)) .ch),
    ([0x89, 0x46, 0x9A], .movEvGv (.mem (.based .bp (.d8 0x9A))) .ax), ([0x8A, 0x9F, 0x21, 0x43], .movGbEb .bl (.mem (.based .bx (.d16 0x4321)))),
    ([0x8B, 0xF0], .movGvEv .si (.reg .ax)), ([0x8C, 0x0A], .movEwSw (.mem (.based .bpSi .none)) .cs),
    ([0x8D, 0x63, 0x9A], .leaGvM .sp (.based .bpDi (.d8 0x9A))), ([0x8E, 0x9C, 0x21, 0x43], .movSwEw .ds (.mem (.based .si (.d16 0x4321)))),
    ([0x8F, 0xC5], .popEv (.reg .bp)), ([0x8F, 0xC8], .invalidOperandEncoding 0x8F 0xC8),
    ([0x8F, 0xD0], .invalidOperandEncoding 0x8F 0xD0), ([0x8F, 0xD8], .invalidOperandEncoding 0x8F 0xD8),
    ([0x8F, 0xE0], .invalidOperandEncoding 0x8F 0xE0), ([0x8F, 0xE8], .invalidOperandEncoding 0x8F 0xE8),
    ([0x8F, 0xF0], .invalidOperandEncoding 0x8F 0xF0), ([0x8F, 0xF8], .invalidOperandEncoding 0x8F 0xF8),
    ([0x90], .nop), ([0x91], .xchgAxCx)] = true := by decide

theorem test_words_9 : decodeTo [
    ([0x92], .xchgAxDx), ([0x93], .xchgAxBx),
    ([0x94], .xchgAxSp), ([0x95], .xchgAxBp),
    ([0x96], .xchgAxSi), ([0x97], .xchgAxDi),
    ([0x98], .cbw), ([0x99], .cwd),
    ([0x9A, 0x78, 0x56, 0x34, 0x12], .callFar 0x5678 0x1234), ([0x9B], .unimplementedOpcode 0x9B),
    ([0x9C], .pushf), ([0x9D], .popf),
    ([0x9E], .sahf), ([0x9F], .lahf),
    ([0xA0, 0x34, 0x28], .movAlOb 0x2834), ([0xA1, 0x34, 0x29], .movAxOv 0x2934),
    ([0xA2, 0x34, 0x2A], .movObAl 0x2A34), ([0xA3, 0x34, 0x2B], .movOvAx 0x2B34),
    ([0xA4], .movsb), ([0xA5], .movsw)] = true := by decide

theorem test_words_10 : decodeTo [
    ([0xA6], .cmpsb), ([0xA7], .cmpsw),
    ([0xAA], .stosb), ([0xAB], .stosw),
    ([0xAC], .lodsb), ([0xAD], .lodsw),
    ([0xAE], .scasb), ([0xAF], .scasw),
    ([0xA8, 0xA4], .testAlIb 0xA4), ([0xA9, 0x34, 0x37], .testAxIv 0x3734),
    ([0xB2, 0xA6], .movR8Ib .dl 0xA6), ([0xBD, 0x34, 0x39], .movR16Iv .bp 0x3934),
    ([0xC0], .unimplementedOpcode 0xC0), ([0xC1], .unimplementedOpcode 0xC1),
    ([0xC2, 0x34, 0x3A], .retNearIw 0x3A34), ([0xC3], .retNear),
    ([0xC4, 0x37], .lesGvMp .si (.based .bx .none)), ([0xC5, 0x48, 0x9A], .ldsGvMp .cx (.based .bxSi (.d8 0x9A))),
    ([0xC6, 0x81, 0x21, 0x43, 0xAC], .movEbIb (.mem (.based .bxDi (.d16 0x4321))) 0xAC), ([0xC6, 0xC8], .invalidOperandEncoding 0xC6 0xC8)] = true := by decide

theorem test_words_11 : decodeTo [
    ([0xC6, 0xD0], .invalidOperandEncoding 0xC6 0xD0), ([0xC6, 0xD8], .invalidOperandEncoding 0xC6 0xD8),
    ([0xC6, 0xE0], .invalidOperandEncoding 0xC6 0xE0), ([0xC6, 0xE8], .invalidOperandEncoding 0xC6 0xE8),
    ([0xC6, 0xF0], .invalidOperandEncoding 0xC6 0xF0), ([0xC6, 0xF8], .invalidOperandEncoding 0xC6 0xF8),
    ([0xC7, 0xC2, 0x34, 0x3F], .movEvIv (.reg .dx) 0x3F34), ([0xC7, 0xC8], .invalidOperandEncoding 0xC7 0xC8),
    ([0xC7, 0xD0], .invalidOperandEncoding 0xC7 0xD0), ([0xC7, 0xD8], .invalidOperandEncoding 0xC7 0xD8),
    ([0xC7, 0xE0], .invalidOperandEncoding 0xC7 0xE0), ([0xC7, 0xE8], .invalidOperandEncoding 0xC7 0xE8),
    ([0xC7, 0xF0], .invalidOperandEncoding 0xC7 0xF0), ([0xC7, 0xF8], .invalidOperandEncoding 0xC7 0xF8),
    ([0xC8], .unimplementedOpcode 0xC8), ([0xC9], .unimplementedOpcode 0xC9),
    ([0xCA, 0x34, 0x40], .retFarIw 0x4034), ([0xCB], .retFar),
    ([0xCC], .int3), ([0xCD, 0xB1], .intIb 0xB1)] = true := by decide

theorem test_words_12 : decodeTo [
    ([0xCE], .into), ([0xCF], .iret),
    ([0xD0, 0x04], .rolEb1 (.mem (.based .si .none))), ([0xD0, 0x4D, 0x9A], .rorEb1 (.mem (.based .di (.d8 0x9A)))),
    ([0xD0, 0x96, 0x21, 0x43], .rclEb1 (.mem (.based .bp (.d16 0x4321)))), ([0xD0, 0xDF], .rcrEb1 (.reg .bh)),
    ([0xD0, 0x21], .shlEb1 (.mem (.based .bxDi .none))), ([0xD0, 0x6A, 0x9A], .shrEb1 (.mem (.based .bpSi (.d8 0x9A)))),
    ([0xD0, 0xF0], .invalidOperandEncoding 0xD0 0xF0), ([0xD0, 0xBB, 0x21, 0x43], .sarEb1 (.mem (.based .bpDi (.d16 0x4321)))),
    ([0xD1, 0xC4], .rolEv1 (.reg .sp)), ([0xD1, 0x0E, 0xCD, 0xAB], .rorEv1 (.mem (.direct 0xABCD))),
    ([0xD1, 0x57, 0x9A], .rclEv1 (.mem (.based .bx (.d8 0x9A)))), ([0xD1, 0x98, 0x21, 0x43], .rcrEv1 (.mem (.based .bxSi (.d16 0x4321)))),
    ([0xD1, 0xE1], .shlEv1 (.reg .cx)), ([0xD1, 0x2B], .shrEv1 (.mem (.based .bpDi .none))),
    ([0xD1, 0xF0], .invalidOperandEncoding 0xD1 0xF0), ([0xD1, 0x7C, 0x9A], .sarEv1 (.mem (.based .si (.d8 0x9A)))),
    ([0xD2, 0x85, 0x21, 0x43], .rolEbCl (.mem (.based .di (.d16 0x4321)))), ([0xD2, 0xCE], .rorEbCl (.reg .dh))] = true := by decide

theorem test_words_13 : decodeTo [
    ([0xD2, 0x10], .rclEbCl (.mem (.based .bxSi .none))), ([0xD2, 0x59, 0x9A], .rcrEbCl (.mem (.based .bxDi (.d8 0x9A)))),
    ([0xD2, 0xA2, 0x21, 0x43], .shlEbCl (.mem (.based .bpSi (.d16 0x4321)))), ([0xD2, 0xEB], .shrEbCl (.reg .bl)),
    ([0xD2, 0xF0], .invalidOperandEncoding 0xD2 0xF0), ([0xD2, 0x3D], .sarEbCl (.mem (.based .di .none))),
    ([0xD3, 0x46, 0x9A], .rolEvCl (.mem (.based .bp (.d8 0x9A)))), ([0xD3, 0x8F, 0x21, 0x43], .rorEvCl (.mem (.based .bx (.d16 0x4321)))),
    ([0xD3, 0xD0], .rclEvCl (.reg .ax)), ([0xD3, 0x1A], .rcrEvCl (.mem (.based .bpSi .none))),
    ([0xD3, 0x63, 0x9A], .shlEvCl (.mem (.based .bpDi (.d8 0x9A)))), ([0xD3, 0xAC, 0x21, 0x43], .shrEvCl (.mem (.based .si (.d16 0x4321)))),
    ([0xD3, 0xF0], .invalidOperandEncoding 0xD3 0xF0), ([0xD3, 0xFD], .sarEvCl (.reg .bp)),
    ([0xD4, 0x90], .aam 0x90), ([0xD5, 0x91], .aad 0x91),
    ([0xD6], .unimplementedOpcode 0xD6), ([0xD7], .xlat),
    ([0xD8], .unimplementedOpcode 0xD8), ([0xE0, 0x93], .loopne 0x93)] = true := by decide

theorem test_words_14 : decodeTo [
    ([0xE1, 0x94], .loope 0x94), ([0xE2, 0x95], .loop 0x95),
    ([0xE3, 0x96], .jcxz 0x96), ([0xE4, 0x97], .inAlIb 0x97),
    ([0xE5, 0x98], .inAxIb 0x98), ([0xE6, 0x99], .outIbAl 0x99),
    ([0xE7, 0x9A], .outIbAx 0x9A), ([0xEC], .inAlDx),
    ([0xED], .inAxDx), ([0xEE], .outDxAl),
    ([0xEF], .outDxAx), ([0xE8, 0x34, 0x31], .callNear 0x3134),
    ([0xE9, 0x34, 0x32], .jmpNear 0x3234), ([0xEA, 0x78, 0x56, 0x34, 0x12], .jmpFar 0x5678 0x1234),
    ([0xEB, 0xA2], .jmpShort 0xA2), ([0xF0], .lockF0),
    ([0xF1], .lockF1), ([0xF2], .repnz),
    ([0xF3], .repz), ([0xF4], .hlt)] = true := by decide

theorem test_words_15 : decodeTo [
    ([0xF5], .cmc), ([0xF6, 0x07, 0xA9], .testEbIb (.mem (.based .bx .none)) 0xA9),
    ([0xF6, 0xC8], .invalidOperandEncoding 0xF6 0xC8), ([0xF6, 0x50, 0x9A], .notEb (.mem (.based .bxSi (.d8 0x9A)))),
    ([0xF6, 0x99, 0x21, 0x43], .negEb (.mem (.based .bxDi (.d16 0x4321)))), ([0xF6, 0xE2], .mulEb (.reg .dl)),
    ([0xF6, 0x2C], .imulEb (.mem (.based .si .none))), ([0xF6, 0x75, 0x9A], .divEb (.mem (.based .di (.d8 0x9A)))),
    ([0xF6, 0xBE, 0x21, 0x43], .idivEb (.mem (.based .bp (.d16 0x4321)))), ([0xF7, 0xC7, 0x34, 0x42], .testEvIv (.reg .di) 0x4234),
    ([0xF7, 0xC8], .invalidOperandEncoding 0xF7 0xC8), ([0xF7, 0x11], .notEv (.mem (.based .bxDi .none))),
    ([0xF7, 0x5A, 0x9A], .negEv (.mem (.based .bpSi (.d8 0x9A)))), ([0xF7, 0xA3, 0x21, 0x43], .mulEv (.mem (.based .bpDi (.d16 0x4321)))),
    ([0xF7, 0xEC], .imulEv (.reg .sp)), ([0xF7, 0x36, 0xCD, 0xAB], .divEv (.mem (.direct 0xABCD))),
    ([0xF7, 0x7F, 0x9A], .idivEv (.mem (.based .bx (.d8 0x9A)))), ([0xF8], .clc),
    ([0xF9], .stc), ([0xFA], .cli)] = true := by decide

theorem test_words_16 : decodeTo [
    ([0xFB], .sti), ([0xFC], .cld),
    ([0xFD], .std), ([0xFE, 0x80, 0x21, 0x43], .incEb (.mem (.based .bxSi (.d16 0x4321)))),
    ([0xFE, 0xC9], .decEb (.reg .cl)), ([0xFE, 0xD0], .invalidOperandEncoding 0xFE 0xD0),
    ([0xFE, 0xD8], .invalidOperandEncoding 0xFE 0xD8), ([0xFE, 0xE0], .invalidOperandEncoding 0xFE 0xE0),
    ([0xFE, 0xE8], .invalidOperandEncoding 0xFE 0xE8), ([0xFE, 0xF0], .invalidOperandEncoding 0xFE 0xF0),
    ([0xFE, 0xF8], .invalidOperandEncoding 0xFE 0xF8), ([0xFF, 0x03], .incEv (.mem (.based .bpDi .none))),
    ([0xFF, 0x4C, 0x9A], .decEv (.mem (.based .si (.d8 0x9A)))), ([0xFF, 0x95, 0x21, 0x43], .callEv (.mem (.based .di (.d16 0x4321)))),
    ([0xFF, 0x18], .callMp (.based .bxSi .none)), ([0xFF, 0x61, 0x9A], .jmpEv (.mem (.based .bxDi (.d8 0x9A)))),
    ([0xFF, 0xAA, 0x21, 0x43], .jmpMp (.based .bpSi (.d16 0x4321))), ([0xFF, 0xF3], .pushEv (.reg .bx)),
    ([0xFF, 0xF8], .invalidOperandEncoding 0xFF 0xF8)] = true := by decide

/-- Table words are numbered over the opcode byte and the ModR/M byte (R127). -/
theorem test_table_words : decodeTableWord 16 0x01D8 = some (.addEvGv (.reg .ax) .bx)
    ∧ decodeTableWord 16 0xF4FF = some .hlt ∧ decodeTableWord 8 0xF4 = some .hlt
    ∧ decodeTableWord 32 0x1234FF36 = some (.pushEv (.mem (.direct 0x1234))) := by decide

/-! ## The vectors of the spec, one step each

V15 lists no flag, but its ADD sets PF by R39 (the low byte 03 has two 1 bits): the rule is followed. -/

/-- A start state or an expected state, in the notation of the vector files; the defaults are the common start state. `free` marks the
flag bits that are draws. -/
structure Vec where
  ax : Word := 0
  cx : Word := 0
  dx : Word := 0
  bx : Word := 0
  sp : Word := 0
  bp : Word := 0
  si : Word := 0
  di : Word := 0
  es : Word := 0
  cs : Word := 0x1000
  ss : Word := 0
  ds : Word := 0
  ip : Word := 0x0100
  fl : Word := 0x0002
  arch : Arch := .a8086
  strict : Bool := false
  persists : Bool := true
  hooks : List (Fin 256) := []
  mem : List (Nat × Byte) := []
  code : List Byte := []
  free : Word := 0
  events : List Event := []
  halt : Bool := false

def Vec.gpr (v : Vec) : Gpr := ⟨v.ax, v.cx, v.dx, v.bx, v.sp, v.bp, v.si, v.di⟩

def Vec.seg (v : Vec) : Segs := ⟨v.es, v.cs, v.ss, v.ds, 0, 0⟩

/-- The start state: the code at CS:IP, the listed bytes in RAM. -/
def Vec.state (v : Vec) : State := State.placeCode 0 v.code { State.reset with
  gpr := v.gpr, seg := v.seg, ip := v.ip, flags := Flags.unpack v.fl, hooks := v.hooks,
  mem := v.mem.foldl (fun m p => Memory.set m p.1 p.2) [],
  cfg := { Config.launch with arch := v.arch, strictSourceSet := v.strict, overridePersistsInRep := v.persists } }

/-- A state shows what the vector lists. -/
def Vec.agrees (v : Vec) (t : State) : Bool :=
  let f := Flags.unpack v.fl
  let free := Flags.unpack v.free
  t.gpr == v.gpr && t.seg == v.seg && t.ip == v.ip && t.flags.other == f.other && (free.cf || t.flags.cf == f.cf)
    && (free.pf || t.flags.pf == f.pf) && (free.af || t.flags.af == f.af) && (free.zf || t.flags.zf == f.zf)
    && (free.sf || t.flags.sf == f.sf) && (free.of || t.flags.of == f.of) && v.mem.all (fun p => t.readByte p.1 == p.2) && t.events == v.events && t.halt == v.halt

/-- One step from the start leads to the expected state. -/
def Vec.passes (v : Vec) (expected : Vec → Vec) : Bool :=
  match step v.state with
  | .next t => (expected v).agrees t
  | .fault _ => false
  | .refused _ => false

/-- One step from the start ends in this fault. -/
def Vec.faults (v : Vec) (f : Fault) : Bool :=
  match step v.state with
  | .next _ => false
  | .fault g => g == f
  | .refused _ => false

theorem test_v1_mov_ax_0xffff : Vec.passes { ds := 0x2000, mem := [(0x20000, 0xBB), (0x2FFFF, 0xAA), (0x30000, 0xCC)], code := [0xA1, 0xFF, 0xFF] }
    (fun v => { v with ax := 0xBBAA, ip := 0x103 }) = true := by decide
theorem test_v2_mov_ax_0xffff : Vec.passes { ds := 0x2000, arch := .a80186, mem := [(0x20000, 0xBB), (0x2FFFF, 0xAA), (0x30000, 0xCC)], code := [0xA1, 0xFF, 0xFF] }
    (fun v => { v with ax := 0xCCAA, ip := 0x103 }) = true := by decide
theorem test_v3_mov_0xffff_ax : Vec.passes { ax := 0xBBAA, ds := 0x2000, code := [0xA3, 0xFF, 0xFF] }
    (fun v => { v with ip := 0x103, mem := [(0x20000, 0xBB), (0x2FFFF, 0xAA), (0x30000, 0x0)] }) = true := by decide
theorem test_v4_mov_0xffff_ax : Vec.passes { ax := 0xBBAA, ds := 0x2000, arch := .a80186, code := [0xA3, 0xFF, 0xFF] }
    (fun v => { v with ip := 0x103, mem := [(0x20000, 0x0), (0x2FFFF, 0xAA), (0x30000, 0xBB)] }) = true := by decide
theorem test_v6_mov_0x1000_al : Vec.passes { ax := 0x41, ds := 0xB800, hooks := [0xB8], code := [0xA2, 0x0, 0x10] }
    (fun v => { v with ip := 0x103, mem := [(0xB9000, 0x41)] }) = true := by decide
theorem test_v7_mov_ax_bx : Vec.passes { bx := 0x10, ds := 0xFFFF, mem := [(0x0, 0x78), (0x1, 0x56)], code := [0x8B, 0x7] }
    (fun v => { v with ax := 0x5678, ip := 0x102 }) = true := by decide
theorem test_v8_mov_ax_0x1234 : Vec.passes { ip := 0xFFFE, code := [0xB8, 0x34, 0x12] }
    (fun v => { v with ax := 0x1234, ip := 0x1 }) = true := by decide
theorem test_v9_es_mov_al_5 : Vec.passes { es := 0x3000, ds := 0x2000, mem := [(0x30005, 0x77), (0x20005, 0x11)], code := [0x26, 0xA0, 0x5, 0x0] }
    (fun v => { v with ax := 0x77, ip := 0x104 }) = true := by decide
theorem test_v10_cs_mov_al_bx : Vec.passes { bx := 0x200, mem := [(0x10200, 0x5A)], code := [0x2E, 0x8A, 0x7] }
    (fun v => { v with ax := 0x5A, ip := 0x103 }) = true := by decide
theorem test_v11_ss_mov_al_bx : Vec.passes { bx := 0x2, ss := 0x4000, mem := [(0x40002, 0x5B)], code := [0x36, 0x8A, 0x7] }
    (fun v => { v with ax := 0x5B, ip := 0x103 }) = true := by decide
theorem test_v12_ds_mov_al_bp_0 : Vec.passes { bp := 0x2, ss := 0x4000, ds := 0x2000, mem := [(0x40002, 0x5B), (0x20002, 0x5C)], code := [0x3E, 0x8A, 0x46, 0x0] }
    (fun v => { v with ax := 0x5C, ip := 0x104 }) = true := by decide
theorem test_v15_lock_lock_es_add_ax_bx : Vec.passes { ax := 0x1, bx := 0x2, code := [0xF0, 0xF1, 0x26, 0x1, 0xD8] }
    (fun v => { v with ax := 0x3, ip := 0x105, fl := 0x6 }) = true := by decide
theorem test_v16_repz_mov_ax_0x1234 : Vec.passes { cx := 0x7, code := [0xF3, 0xB8, 0x34, 0x12] }
    (fun v => { v with ax := 0x1234, ip := 0x104 }) = true := by decide
theorem test_v18_none : Vec.faults { ax := 0x1111, code := [0xF] }
    (.unimplementedOpcode 0x0F 0x1000 0x0100) = true := by decide
theorem test_v28_lea_ax_ax_mod_3 : Vec.faults { code := [0x8D, 0xC0] }
    (.invalidOperandEncoding 0x8D 0xC0 0x1000 0x0100) = true := by decide
theorem test_v29_les_ax_ax_mod_3 : Vec.faults { code := [0xC4, 0xC0] }
    (.invalidOperandEncoding 0xC4 0xC0 0x1000 0x0100) = true := by decide
theorem test_v30_mov_sreg4_ax : Vec.faults { code := [0x8E, 0xE0] }
    (.invalidOperandEncoding 0x8E 0xE0 0x1000 0x0100) = true := by decide
theorem test_v31_mov_ax_sreg7 : Vec.faults { code := [0x8C, 0xF8] }
    (.invalidOperandEncoding 0x8C 0xF8 0x1000 0x0100) = true := by decide
theorem test_v32_pop_1 : Vec.faults { code := [0x8F, 0x8] }
    (.invalidOperandEncoding 0x8F 0x08 0x1000 0x0100) = true := by decide
theorem test_v33_mov_1 : Vec.faults { code := [0xC6, 0xC8, 0x55] }
    (.invalidOperandEncoding 0xC6 0xC8 0x1000 0x0100) = true := by decide
theorem test_v34_shift_6 : Vec.faults { code := [0xD0, 0xF0] }
    (.invalidOperandEncoding 0xD0 0xF0 0x1000 0x0100) = true := by decide
theorem test_v35_group_3_1 : Vec.faults { code := [0xF6, 0xC8] }
    (.invalidOperandEncoding 0xF6 0xC8 0x1000 0x0100) = true := by decide
theorem test_v36_group_4_2 : Vec.faults { code := [0xFE, 0xD0] }
    (.invalidOperandEncoding 0xFE 0xD0 0x1000 0x0100) = true := by decide
theorem test_v37_group_5_7 : Vec.faults { code := [0xFF, 0xF8] }
    (.invalidOperandEncoding 0xFF 0xF8 0x1000 0x0100) = true := by decide
theorem test_v38_call_far_mod_3 : Vec.faults { code := [0xFF, 0xD8] }
    (.invalidOperandEncoding 0xFF 0xD8 0x1000 0x0100) = true := by decide
theorem test_v39_jmp_far_mod_3 : Vec.faults { code := [0xFF, 0xE8] }
    (.invalidOperandEncoding 0xFF 0xE8 0x1000 0x0100) = true := by decide
theorem test_v41_inc_ax : Vec.faults { ax := 0x1, strict := true, code := [0x40] }
    (.unimplementedOpcode 0x40 0x1000 0x0100) = true := by decide
theorem test_v42_nop : Vec.faults { strict := true, code := [0x90] }
    (.unimplementedOpcode 0x90 0x1000 0x0100) = true := by decide
theorem test_v46_mov_bl_ah : Vec.passes { ax := 0x1234, code := [0x88, 0xE3] }
    (fun v => { v with bx := 0x12, ip := 0x102 }) = true := by decide
theorem test_v48_mov_bp_sp : Vec.passes { sp := 0x100, code := [0x89, 0xE5] }
    (fun v => { v with bp := 0x100, ip := 0x102 }) = true := by decide
theorem test_v52_add_al_bl : Vec.passes { ax := 0xFF, bx := 0x1, code := [0x0, 0xD8] }
    (fun v => { v with ax := 0x0, ip := 0x102, fl := 0x57 }) = true := by decide
theorem test_v58_adc_al_bl : Vec.passes { ax := 0xFF, bx := 0xFF, fl := 0x3, code := [0x10, 0xD8] }
    (fun v => { v with ip := 0x102, fl := 0x97 }) = true := by decide
theorem test_v63_sub_al_bl : Vec.passes { bx := 0x1, code := [0x28, 0xD8] }
    (fun v => { v with ax := 0xFF, ip := 0x102, fl := 0x97 }) = true := by decide
theorem test_v68_sbb_al_bl : Vec.passes { bx := 0xFF, fl := 0x3, code := [0x18, 0xD8] }
    (fun v => { v with ip := 0x102, fl := 0x57 }) = true := by decide
theorem test_v73_cmp_al_bl : Vec.passes { ax := 0x3, bx := 0x5, code := [0x38, 0xD8] }
    (fun v => { v with ip := 0x102, fl := 0x93 }) = true := by decide
theorem test_v78_and_al_bl : Vec.passes { ax := 0xF0, bx := 0xF, code := [0x20, 0xD8] }
    (fun v => { v with ax := 0x0, ip := 0x102, fl := 0x46 }) = true := by decide
theorem test_v80_or_al_bl : Vec.passes { ax := 0x1, bx := 0x80, fl := 0x3, code := [0x8, 0xD8] }
    (fun v => { v with ax := 0x81, ip := 0x102, fl := 0x86 }) = true := by decide
theorem test_v82_xor_al_bl : Vec.passes { ax := 0xFF, bx := 0xFF, fl := 0x3, code := [0x30, 0xD8] }
    (fun v => { v with ax := 0x0, ip := 0x102, fl := 0x46 }) = true := by decide
theorem test_v87_adc_ax_bx : Vec.passes { ax := 0xFFFF, fl := 0x3, code := [0x11, 0xD8] }
    (fun v => { v with ax := 0x0, ip := 0x102, fl := 0x57 }) = true := by decide
theorem test_v88_sub_ax_bx : Vec.passes { ax := 0x8000, bx := 0x1, code := [0x29, 0xD8] }
    (fun v => { v with ax := 0x7FFF, ip := 0x102, fl := 0x816 }) = true := by decide
theorem test_v89_sbb_ax_bx : Vec.passes { bx := 0xFFFF, fl := 0x3, code := [0x19, 0xD8] }
    (fun v => { v with ip := 0x102, fl := 0x57 }) = true := by decide
theorem test_v90_cmp_ax_bx : Vec.passes { ax := 0x1234, bx := 0x1234, code := [0x39, 0xD8] }
    (fun v => { v with ip := 0x102, fl := 0x46 }) = true := by decide
theorem test_v91_cmp_bl_al : Vec.passes { ax := 0x3, bx := 0x5, code := [0x3A, 0xD8] }
    (fun v => { v with ip := 0x102 }) = true := by decide
theorem test_v92_add_bl_al : Vec.passes { ax := 0x3, bx := 0x5, code := [0x2, 0xD8] }
    (fun v => { v with bx := 0x8, ip := 0x102 }) = true := by decide
theorem test_v93_add_al_0x55 : Vec.passes { ax := 0xAB, code := [0x4, 0x55] }
    (fun v => { v with ax := 0x0, ip := 0x102, fl := 0x57 }) = true := by decide
theorem test_v94_add_ax_0xffff : Vec.passes { ax := 0x1, code := [0x5, 0xFF, 0xFF] }
    (fun v => { v with ax := 0x0, ip := 0x103, fl := 0x57 }) = true := by decide
theorem test_v95_cmp_ax_0x8000 : Vec.passes { ax := 0x7FFF, code := [0x3D, 0x0, 0x80] }
    (fun v => { v with ip := 0x103, fl := 0x887 }) = true := by decide
theorem test_v96_add_byte_0x2000_1 : Vec.passes { ds := 0x2000, mem := [(0x22000, 0xFF), (0x22001, 0x77)], code := [0x80, 0x6, 0x0, 0x20, 0x1] }
    (fun v => { v with ip := 0x105, fl := 0x57, mem := [(0x22000, 0x0), (0x22001, 0x77)] }) = true := by decide
theorem test_v97_add_word_0x2000_0x1234 : Vec.passes { ds := 0x2000, mem := [(0x22000, 0xFF), (0x22001, 0xFF)], code := [0x81, 0x6, 0x0, 0x20, 0x34, 0x12] }
    (fun v => { v with ip := 0x106, fl := 0x17, mem := [(0x22000, 0x33), (0x22001, 0x12)] }) = true := by decide
theorem test_v98_add_bx_1 : Vec.passes { code := [0x83, 0xC3, 0xFF] }
    (fun v => { v with bx := 0xFFFF, ip := 0x103, fl := 0x86 }) = true := by decide
theorem test_v99_sub_bx_128 : Vec.passes { bx := 0x10, code := [0x83, 0xEB, 0x80] }
    (fun v => { v with bx := 0x90, ip := 0x103, fl := 0x7 }) = true := by decide
theorem test_v100_and_ax_0xfff0 : Vec.passes { ax := 0x12FF, code := [0x83, 0xE0, 0xF0] }
    (fun v => { v with ax := 0x12F0, ip := 0x103, fl := 0x6 }) = true := by decide
theorem test_v101_add_al_1_alias_0x82 : Vec.passes { ax := 0xF, code := [0x82, 0xC0, 0x1] }
    (fun v => { v with ax := 0x10, ip := 0x103, fl := 0x12 }) = true := by decide
theorem test_v102_cmp_byte_0x2000_5 : Vec.passes { ds := 0x2000, mem := [(0x22000, 0x5)], code := [0x80, 0x3E, 0x0, 0x20, 0x5] }
    (fun v => { v with ip := 0x105, fl := 0x46, mem := [(0x22000, 0x5)] }) = true := by decide
theorem test_v107_dec_bx : Vec.passes { code := [0x4B] }
    (fun v => { v with bx := 0xFFFF, ip := 0x101, fl := 0x96 }) = true := by decide
theorem test_v109_inc_al : Vec.passes { ax := 0x12FF, code := [0xFE, 0xC0] }
    (fun v => { v with ax := 0x1200, ip := 0x102, fl := 0x56 }) = true := by decide
theorem test_v110_dec_byte_0x2000 : Vec.passes { ds := 0x2000, mem := [(0x22000, 0x80)], code := [0xFE, 0xE, 0x0, 0x20] }
    (fun v => { v with ip := 0x104, fl := 0x812, mem := [(0x22000, 0x7F)] }) = true := by decide
theorem test_v111_inc_word_0x2000 : Vec.passes { ds := 0x2000, mem := [(0x22000, 0xFF), (0x22001, 0x0)], code := [0xFF, 0x6, 0x0, 0x20] }
    (fun v => { v with ip := 0x104, fl := 0x16, mem := [(0x22000, 0x0), (0x22001, 0x1)] }) = true := by decide
theorem test_v112_neg_al : Vec.passes { ax := 0x80, code := [0xF6, 0xD8] }
    (fun v => { v with ip := 0x102, fl := 0x883 }) = true := by decide
theorem test_v114_neg_bx : Vec.passes { bx := 0x1, code := [0xF7, 0xDB] }
    (fun v => { v with bx := 0xFFFF, ip := 0x102, fl := 0x97 }) = true := by decide
theorem test_v115_not_ax : Vec.passes { ax := 0xFF, fl := 0x8D7, code := [0xF7, 0xD0] }
    (fun v => { v with ax := 0xFF00, ip := 0x102 }) = true := by decide
theorem test_v116_not_byte_0x2000 : Vec.passes { ds := 0x2000, mem := [(0x22000, 0xA5)], code := [0xF6, 0x16, 0x0, 0x20] }
    (fun v => { v with ip := 0x104, mem := [(0x22000, 0x5A)] }) = true := by decide
theorem test_v117_test_bl_al : Vec.passes { ax := 0xF, bx := 0xF0, fl := 0x3, code := [0x84, 0xC3] }
    (fun v => { v with ip := 0x102, fl := 0x46 }) = true := by decide
theorem test_v118_test_al_0x80 : Vec.passes { ax := 0x80, code := [0xA8, 0x80] }
    (fun v => { v with ip := 0x102, fl := 0x82 }) = true := by decide
theorem test_v119_test_bx_1 : Vec.passes { bx := 0x3, code := [0xF7, 0xC3, 0x1, 0x0] }
    (fun v => { v with ip := 0x104 }) = true := by decide
theorem test_v120_daa : Vec.passes { ax := 0x9A, fl := 0x802, code := [0x27] }
    (fun v => { v with ax := 0x0, ip := 0x101, fl := 0x57 }) = true := by decide
theorem test_v129_das : Vec.passes { ax := 0xFF, fl := 0x13, code := [0x2F] }
    (fun v => { v with ax := 0x99, ip := 0x101, fl := 0x97 }) = true := by decide
theorem test_v135_aaa : Vec.passes { ax := 0xF, code := [0x37] }
    (fun v => { v with ax := 0x105, ip := 0x101, fl := 0x13, free := 0xC4 }) = true := by decide
theorem test_v140_aas : Vec.passes { ax := 0x1FF, fl := 0x12, code := [0x3F] }
    (fun v => { v with ax := 0x9, ip := 0x101, fl := 0x13, free := 0xC4 }) = true := by decide
theorem test_v144_aam : Vec.passes { ax := 0xFF3F, code := [0xD4, 0xA] }
    (fun v => { v with ax := 0x603, ip := 0x102, fl := 0x6, free := 0x811 }) = true := by decide
theorem test_v147_aad : Vec.passes { ax := 0x603, code := [0xD5, 0xA] }
    (fun v => { v with ax := 0x3F, ip := 0x102, fl := 0x6, free := 0x811 }) = true := by decide
theorem test_v151_rol_al_1 : Vec.passes { ax := 0x81, code := [0xD0, 0xC0] }
    (fun v => { v with ax := 0x3, ip := 0x102, fl := 0x803 }) = true := by decide
theorem test_v153_ror_al_1 : Vec.passes { ax := 0x81, code := [0xD0, 0xC8] }
    (fun v => { v with ax := 0xC0, ip := 0x102, fl := 0x3 }) = true := by decide
theorem test_v155_rcl_al_1 : Vec.passes { ax := 0x81, code := [0xD0, 0xD0] }
    (fun v => { v with ax := 0x2, ip := 0x102, fl := 0x803 }) = true := by decide
theorem test_v157_rcr_al_1 : Vec.passes { ax := 0x81, code := [0xD0, 0xD8] }
    (fun v => { v with ax := 0x40, ip := 0x102, fl := 0x803 }) = true := by decide
theorem test_v159_shl_al_1 : Vec.passes { ax := 0x81, code := [0xD0, 0xE0] }
    (fun v => { v with ax := 0x2, ip := 0x102, fl := 0x803, free := 0x10 }) = true := by decide
theorem test_v161_shr_al_1 : Vec.passes { ax := 0x81, code := [0xD0, 0xE8] }
    (fun v => { v with ax := 0x40, ip := 0x102, fl := 0x803, free := 0x10 }) = true := by decide
theorem test_v163_sar_al_1 : Vec.passes { ax := 0x81, code := [0xD0, 0xF8] }
    (fun v => { v with ax := 0xC0, ip := 0x102, fl := 0x87, free := 0x10 }) = true := by decide
theorem test_v165_rol_ax_1 : Vec.passes { ax := 0x8001, fl := 0x3, code := [0xD1, 0xC0] }
    (fun v => { v with ax := 0x3, ip := 0x102, fl := 0x803 }) = true := by decide
theorem test_v166_ror_ax_1 : Vec.passes { ax := 0x8001, fl := 0x3, code := [0xD1, 0xC8] }
    (fun v => { v with ax := 0xC000, ip := 0x102 }) = true := by decide
theorem test_v167_rcl_ax_1 : Vec.passes { ax := 0x8001, fl := 0x3, code := [0xD1, 0xD0] }
    (fun v => { v with ax := 0x3, ip := 0x102, fl := 0x803 }) = true := by decide
theorem test_v168_rcr_ax_1 : Vec.passes { ax := 0x8001, fl := 0x3, code := [0xD1, 0xD8] }
    (fun v => { v with ax := 0xC000, ip := 0x102 }) = true := by decide
theorem test_v169_shl_ax_1 : Vec.passes { ax := 0x8001, fl := 0x3, code := [0xD1, 0xE0] }
    (fun v => { v with ax := 0x2, ip := 0x102, fl := 0x803, free := 0x10 }) = true := by decide
theorem test_v170_shr_ax_1 : Vec.passes { ax := 0x8001, fl := 0x3, code := [0xD1, 0xE8] }
    (fun v => { v with ax := 0x4000, ip := 0x102, fl := 0x807, free := 0x10 }) = true := by decide
theorem test_v171_sar_ax_1 : Vec.passes { ax := 0x8001, fl := 0x3, code := [0xD1, 0xF8] }
    (fun v => { v with ax := 0xC000, ip := 0x102, fl := 0x87, free := 0x10 }) = true := by decide
theorem test_v172_rol_al_cl : Vec.passes { ax := 0xB5, cx := 0x3, fl := 0x3, code := [0xD2, 0xC0] }
    (fun v => { v with ax := 0xAD, ip := 0x102, free := 0x800 }) = true := by decide
theorem test_v173_ror_al_cl : Vec.passes { ax := 0xB5, cx := 0x3, fl := 0x3, code := [0xD2, 0xC8] }
    (fun v => { v with ax := 0xB6, ip := 0x102, free := 0x800 }) = true := by decide
theorem test_v174_rcl_al_cl : Vec.passes { ax := 0xB5, cx := 0x3, fl := 0x3, code := [0xD2, 0xD0] }
    (fun v => { v with ax := 0xAE, ip := 0x102, free := 0x800 }) = true := by decide
theorem test_v175_rcr_al_cl : Vec.passes { ax := 0xB5, cx := 0x3, fl := 0x3, code := [0xD2, 0xD8] }
    (fun v => { v with ax := 0x76, ip := 0x102, free := 0x800 }) = true := by decide
theorem test_v176_shl_al_cl : Vec.passes { ax := 0xB5, cx := 0x3, fl := 0x3, code := [0xD2, 0xE0] }
    (fun v => { v with ax := 0xA8, ip := 0x102, fl := 0x83, free := 0x810 }) = true := by decide
theorem test_v177_shr_al_cl : Vec.passes { ax := 0xB5, cx := 0x3, fl := 0x3, code := [0xD2, 0xE8] }
    (fun v => { v with ax := 0x16, ip := 0x102, free := 0x810 }) = true := by decide
theorem test_v178_sar_al_cl : Vec.passes { ax := 0xB5, cx := 0x3, fl := 0x3, code := [0xD2, 0xF8] }
    (fun v => { v with ax := 0xF6, ip := 0x102, fl := 0x87, free := 0x810 }) = true := by decide
theorem test_v179_shr_ax_cl : Vec.passes { ax := 0x1234, cx := 0x4, code := [0xD3, 0xE8] }
    (fun v => { v with ax := 0x123, ip := 0x102, free := 0x810 }) = true := by decide
theorem test_v180_shl_ax_cl : Vec.passes { ax := 0x1234, fl := 0x8D7, code := [0xD3, 0xE0] }
    (fun v => { v with ip := 0x102 }) = true := by decide
theorem test_v185_rol_ax_cl : Vec.passes { ax := 0x8001, cx := 0x11, code := [0xD3, 0xC0] }
    (fun v => { v with ax := 0x3, ip := 0x102, fl := 0x3, free := 0x800 }) = true := by decide
theorem test_v187_sar_ax_cl : Vec.passes { ax := 0x8000, cx := 0x1F, code := [0xD3, 0xF8] }
    (fun v => { v with ax := 0xFFFF, ip := 0x102, fl := 0x87, free := 0x810 }) = true := by decide
theorem test_v191_rol_ax_cl : Vec.passes { ax := 0x8001, cx := 0x11, arch := .a80186, code := [0xD3, 0xC0] }
    (fun v => { v with ax := 0x3, ip := 0x102, fl := 0x803 }) = true := by decide
theorem test_v193_sar_ax_cl : Vec.passes { ax := 0x8000, cx := 0x1F, arch := .a80186, code := [0xD3, 0xF8] }
    (fun v => { v with ax := 0xFFFF, ip := 0x102, fl := 0x86, free := 0x810 }) = true := by decide
theorem test_v196_mul_bl : Vec.passes { ax := 0x7710, bx := 0x10, code := [0xF6, 0xE3] }
    (fun v => { v with ax := 0x100, ip := 0x102, fl := 0x803, free := 0xD4 }) = true := by decide
theorem test_v201_mul_bx : Vec.passes { ax := 0xFFFF, dx := 0x7777, bx := 0xFFFF, code := [0xF7, 0xE3] }
    (fun v => { v with ax := 0x1, dx := 0xFFFE, ip := 0x102, fl := 0x803, free := 0xD4 }) = true := by decide
theorem test_v204_imul_bl : Vec.passes { ax := 0x80, bx := 0x80, code := [0xF6, 0xEB] }
    (fun v => { v with ax := 0x4000, ip := 0x102, fl := 0x803, free := 0xD4 }) = true := by decide
theorem test_v210_imul_bx : Vec.passes { ax := 0xFFFF, bx := 0xFFFF, code := [0xF7, 0xEB] }
    (fun v => { v with ax := 0x1, ip := 0x102, free := 0xD4 }) = true := by decide
theorem test_v215_div_bl : Vec.passes { ax := 0x64, bx := 0x7, code := [0xF6, 0xF3] }
    (fun v => { v with ax := 0x20E, ip := 0x102, free := 0x8D5 }) = true := by decide
theorem test_v220_div_bx : Vec.passes { dx := 0x1, bx := 0x2, code := [0xF7, 0xF3] }
    (fun v => { v with ax := 0x8000, dx := 0x0, ip := 0x102, free := 0x8D5 }) = true := by decide
theorem test_v225_idiv_bl : Vec.passes { ax := 0xFF9C, bx := 0x7, code := [0xF6, 0xFB] }
    (fun v => { v with ax := 0xFEF2, ip := 0x102, free := 0x8D5 }) = true := by decide
theorem test_v234_idiv_bx : Vec.passes { ax := 0xFF9C, dx := 0xFFFF, bx := 0x7, code := [0xF7, 0xFB] }
    (fun v => { v with ax := 0xFFF2, dx := 0xFFFE, ip := 0x102, free := 0x8D5 }) = true := by decide
theorem test_v251_mov_ah_0x12 : Vec.passes { ax := 0x55AA, code := [0xB4, 0x12] }
    (fun v => { v with ax := 0x12AA, ip := 0x102 }) = true := by decide
theorem test_v252_mov_bh_0xff : Vec.passes { bx := 0x1, code := [0xB7, 0xFF] }
    (fun v => { v with bx := 0xFF01, ip := 0x102 }) = true := by decide
theorem test_v253_mov_sp_0x0100 : Vec.passes { code := [0xBC, 0x0, 0x1] }
    (fun v => { v with sp := 0x100, ip := 0x103 }) = true := by decide
theorem test_v254_mov_di_0xabcd : Vec.passes { code := [0xBF, 0xCD, 0xAB] }
    (fun v => { v with di := 0xABCD, ip := 0x103 }) = true := by decide
theorem test_v255_mov_byte_0x2000_0xaa : Vec.passes { ds := 0x2000, mem := [(0x22000, 0x11), (0x22001, 0x11)], code := [0xC6, 0x6, 0x0, 0x20, 0xAA] }
    (fun v => { v with ip := 0x105, mem := [(0x22000, 0xAA), (0x22001, 0x11)] }) = true := by decide
theorem test_v256_mov_word_bx_0x1234 : Vec.passes { bx := 0x20, ds := 0x2000, code := [0xC7, 0x7, 0x34, 0x12] }
    (fun v => { v with ip := 0x104, mem := [(0x20020, 0x34), (0x20021, 0x12)] }) = true := by decide
theorem test_v266_lds_si_0x2000 : Vec.passes { ds := 0x2000, mem := [(0x22000, 0x10), (0x22001, 0x0), (0x22002, 0x0), (0x22003, 0x30)], code := [0xC5, 0x36, 0x0, 0x20] }
    (fun v => { v with si := 0x10, ds := 0x3000, ip := 0x104 }) = true := by decide
theorem test_v268_xchg_al_ah : Vec.passes { ax := 0x1234, code := [0x86, 0xE0] }
    (fun v => { v with ax := 0x3412, ip := 0x102 }) = true := by decide
theorem test_v269_xchg_0x2000_ax : Vec.passes { ax := 0x1234, ds := 0x2000, mem := [(0x22000, 0x78), (0x22001, 0x56)], code := [0x87, 0x6, 0x0, 0x20] }
    (fun v => { v with ax := 0x5678, ip := 0x104, mem := [(0x22000, 0x34), (0x22001, 0x12)] }) = true := by decide
theorem test_v271_xchg_ax_bx : Vec.passes { ax := 0x1, bx := 0x2, code := [0x93] }
    (fun v => { v with ax := 0x2, bx := 0x1, ip := 0x101 }) = true := by decide
theorem test_v272_xchg_ax_sp : Vec.passes { ax := 0x200, sp := 0x100, code := [0x94] }
    (fun v => { v with ax := 0x100, sp := 0x200, ip := 0x101 }) = true := by decide
theorem test_v273_xlat : Vec.passes { ax := 0x3, bx := 0x2000, ds := 0x2000, mem := [(0x22003, 0x41)], code := [0xD7] }
    (fun v => { v with ax := 0x41, ip := 0x101 }) = true := by decide
theorem test_v276_cbw : Vec.passes { ax := 0x1280, code := [0x98] }
    (fun v => { v with ax := 0xFF80, ip := 0x101 }) = true := by decide
theorem test_v278_cwd : Vec.passes { ax := 0x8000, dx := 0x1234, code := [0x99] }
    (fun v => { v with dx := 0xFFFF, ip := 0x101 }) = true := by decide
theorem test_v284_out_0x80_al : Vec.passes { ax := 0x1234, code := [0xE6, 0x80] }
    (fun v => { v with ip := 0x102, events := [.portWrite 0x0080 .byte 0x34] }) = true := by decide
theorem test_v285_out_dx_al : Vec.passes { ax := 0x41, dx := 0x3F8, code := [0xEE] }
    (fun v => { v with ip := 0x101, events := [.portWrite 0x03F8 .byte 0x41] }) = true := by decide
theorem test_v286_out_0x10_ax : Vec.passes { ax := 0x1234, code := [0xE7, 0x10] }
    (fun v => { v with ip := 0x102, events := [.portWrite 0x0010 .word 0x1234] }) = true := by decide
theorem test_v287_out_dx_ax : Vec.passes { ax := 0xABCD, dx := 0xFFFF, code := [0xEF] }
    (fun v => { v with ip := 0x101, events := [.portWrite 0xFFFF .word 0xABCD] }) = true := by decide
theorem test_v288_push_ax : Vec.passes { ax := 0x1234, sp := 0x100, ss := 0x2000, code := [0x50] }
    (fun v => { v with sp := 0xFE, ip := 0x101, mem := [(0x200FE, 0x34), (0x200FF, 0x12)] }) = true := by decide
theorem test_v289_push_di : Vec.passes { di := 0xABCD, ss := 0x2000, code := [0x57] }
    (fun v => { v with sp := 0xFFFE, ip := 0x101, mem := [(0x2FFFE, 0xCD), (0x2FFFF, 0xAB)] }) = true := by decide
theorem test_v290_push_cx : Vec.passes { cx := 0xBBAA, sp := 0x1, ss := 0x2000, code := [0x51] }
    (fun v => { v with sp := 0xFFFF, ip := 0x101, mem := [(0x20000, 0xBB), (0x2FFFF, 0xAA), (0x30000, 0x0)] }) = true := by decide
theorem test_v291_push_sp : Vec.passes { sp := 0x100, ss := 0x2000, code := [0x54] }
    (fun v => { v with sp := 0xFE, ip := 0x101, mem := [(0x200FE, 0xFE), (0x200FF, 0x0)] }) = true := by decide
theorem test_v293_push_sp_ff_6 : Vec.passes { sp := 0x100, ss := 0x2000, code := [0xFF, 0xF4] }
    (fun v => { v with sp := 0xFE, ip := 0x102, mem := [(0x200FE, 0xFE), (0x200FF, 0x0)] }) = true := by decide
theorem test_v294_push_cx : Vec.passes { cx := 0xBBAA, sp := 0x1, ss := 0x2000, arch := .a80186, code := [0x51] }
    (fun v => { v with sp := 0xFFFF, ip := 0x101, mem := [(0x20000, 0x0), (0x2FFFF, 0xAA), (0x30000, 0xBB)] }) = true := by decide
theorem test_v295_push_sp : Vec.passes { sp := 0x100, ss := 0x2000, arch := .a80186, code := [0x54] }
    (fun v => { v with sp := 0xFE, ip := 0x101, mem := [(0x200FE, 0x0), (0x200FF, 0x1)] }) = true := by decide
theorem test_v297_push_sp_ff_6 : Vec.passes { sp := 0x100, ss := 0x2000, arch := .a80186, code := [0xFF, 0xF4] }
    (fun v => { v with sp := 0xFE, ip := 0x102, mem := [(0x200FE, 0x0), (0x200FF, 0x1)] }) = true := by decide
theorem test_v298_pop_bx : Vec.passes { sp := 0xFE, ss := 0x2000, mem := [(0x200FE, 0x34), (0x200FF, 0x12)], code := [0x5B] }
    (fun v => { v with bx := 0x1234, sp := 0x100, ip := 0x101 }) = true := by decide
theorem test_v299_pop_sp : Vec.passes { sp := 0x100, ss := 0x2000, mem := [(0x20100, 0x0), (0x20101, 0x40)], code := [0x5C] }
    (fun v => { v with sp := 0x4000, ip := 0x101 }) = true := by decide
theorem test_v300_pop_ax : Vec.passes { sp := 0xFFFE, ss := 0x2000, mem := [(0x2FFFE, 0xEF), (0x2FFFF, 0xBE)], code := [0x58] }
    (fun v => { v with ax := 0xBEEF, sp := 0x0, ip := 0x101 }) = true := by decide
theorem test_v302_pop_word_0x2000 : Vec.passes { sp := 0xFE, ss := 0x2000, ds := 0x3000, mem := [(0x200FE, 0x34), (0x200FF, 0x12)], code := [0x8F, 0x6, 0x0, 0x20] }
    (fun v => { v with sp := 0x100, ip := 0x104, mem := [(0x32000, 0x34), (0x32001, 0x12)] }) = true := by decide
theorem test_v304_push_es : Vec.passes { sp := 0x100, es := 0x1111, ss := 0x2000, code := [0x6] }
    (fun v => { v with sp := 0xFE, ip := 0x101, mem := [(0x200FE, 0x11), (0x200FF, 0x11)] }) = true := by decide
theorem test_v305_push_cs : Vec.passes { sp := 0x100, ss := 0x2000, code := [0xE] }
    (fun v => { v with sp := 0xFE, ip := 0x101, mem := [(0x200FE, 0x0), (0x200FF, 0x10)] }) = true := by decide
theorem test_v306_push_ss : Vec.passes { sp := 0x100, ss := 0x2000, code := [0x16] }
    (fun v => { v with sp := 0xFE, ip := 0x101, mem := [(0x200FE, 0x0), (0x200FF, 0x20)] }) = true := by decide
theorem test_v307_push_ds : Vec.passes { sp := 0x100, ss := 0x2000, ds := 0x3333, code := [0x1E] }
    (fun v => { v with sp := 0xFE, ip := 0x101, mem := [(0x200FE, 0x33), (0x200FF, 0x33)] }) = true := by decide
theorem test_v308_pop_es : Vec.passes { sp := 0xFE, ss := 0x2000, mem := [(0x200FE, 0x0), (0x200FF, 0x30)], code := [0x7] }
    (fun v => { v with sp := 0x100, es := 0x3000, ip := 0x101 }) = true := by decide
theorem test_v309_pop_ds : Vec.passes { sp := 0xFE, ss := 0x2000, mem := [(0x200FE, 0x0), (0x200FF, 0x30)], code := [0x1F] }
    (fun v => { v with sp := 0x100, ds := 0x3000, ip := 0x101 }) = true := by decide
theorem test_v311_pushf : Vec.passes { sp := 0x100, ss := 0x2000, fl := 0x41, code := [0x9C] }
    (fun v => { v with sp := 0xFE, ip := 0x101, mem := [(0x200FE, 0x41), (0x200FF, 0x0)] }) = true := by decide
theorem test_v313_popf : Vec.passes { sp := 0xFE, ss := 0x2000, mem := [(0x200FE, 0xFF), (0x200FF, 0xFF)], code := [0x9D] }
    (fun v => { v with sp := 0x100, ip := 0x101, fl := 0xFFFF }) = true := by decide
theorem test_v316_movsb : Vec.passes { cx := 0x7, si := 0x10, di := 0x20, es := 0x3000, ds := 0x2000, mem := [(0x20010, 0xAB)], code := [0xA4] }
    (fun v => { v with si := 0x11, di := 0x21, ip := 0x101, mem := [(0x30020, 0xAB)] }) = true := by decide
theorem test_v317_movsw : Vec.passes { si := 0x10, di := 0x20, es := 0x3000, ds := 0x2000, fl := 0x402, mem := [(0x20010, 0xCD), (0x20011, 0xAB)], code := [0xA5] }
    (fun v => { v with si := 0xE, di := 0x1E, ip := 0x101, mem := [(0x30020, 0xCD), (0x30021, 0xAB)] }) = true := by decide
theorem test_v319_repnz_movsb : Vec.passes { cx := 0x2, si := 0x100, di := 0x200, es := 0x3000, ds := 0x2000, mem := [(0x20100, 0x11), (0x20101, 0x22), (0x20102, 0x33)], code := [0xF2, 0xA4] }
    (fun v => { v with cx := 0x0, si := 0x102, di := 0x202, ip := 0x102, mem := [(0x30200, 0x11), (0x30201, 0x22), (0x30202, 0x0)] }) = true := by decide
theorem test_v326_cmpsb : Vec.passes { es := 0x3000, ds := 0x2000, mem := [(0x20000, 0x10), (0x30000, 0x20)], code := [0xA6] }
    (fun v => { v with si := 0x1, di := 0x1, ip := 0x101, fl := 0x87 }) = true := by decide
theorem test_v327_cmpsw : Vec.passes { es := 0x3000, ds := 0x2000, mem := [(0x20000, 0x34), (0x20001, 0x12), (0x30000, 0x34), (0x30001, 0x12)], code := [0xA7] }
    (fun v => { v with si := 0x2, di := 0x2, ip := 0x101, fl := 0x46 }) = true := by decide
theorem test_v333_stosb : Vec.passes { ax := 0x55, di := 0x20, es := 0x3000, ds := 0x2000, code := [0xAA] }
    (fun v => { v with di := 0x21, ip := 0x101, mem := [(0x30020, 0x55)] }) = true := by decide
theorem test_v334_stosw : Vec.passes { ax := 0x1234, di := 0x20, es := 0x3000, ds := 0x2000, fl := 0x402, code := [0xAB] }
    (fun v => { v with di := 0x1E, ip := 0x101, mem := [(0x30020, 0x34), (0x30021, 0x12)] }) = true := by decide
theorem test_v337_lodsb : Vec.passes { ax := 0xFF00, si := 0x5, es := 0x3000, ds := 0x2000, mem := [(0x20005, 0x7F)], code := [0xAC] }
    (fun v => { v with ax := 0xFF7F, si := 0x6, ip := 0x101 }) = true := by decide
theorem test_v338_lodsw : Vec.passes { si := 0x5, es := 0x3000, ds := 0x2000, fl := 0x402, mem := [(0x20005, 0x34), (0x20006, 0x12)], code := [0xAD] }
    (fun v => { v with ax := 0x1234, si := 0x3, ip := 0x101 }) = true := by decide
theorem test_v341_scasb : Vec.passes { ax := 0x10, es := 0x3000, ds := 0x2000, mem := [(0x30000, 0x20)], code := [0xAE] }
    (fun v => { v with di := 0x1, ip := 0x101, fl := 0x87 }) = true := by decide
theorem test_v342_scasw : Vec.passes { ax := 0x8000, es := 0x3000, ds := 0x2000, mem := [(0x30000, 0x1), (0x30001, 0x0)], code := [0xAF] }
    (fun v => { v with di := 0x2, ip := 0x101, fl := 0x816 }) = true := by decide
theorem test_v348_je_0x10 : Vec.passes { fl := 0x42, code := [0x74, 0x10] }
    (fun v => { v with ip := 0x112 }) = true := by decide
theorem test_v350_jb_2 : Vec.passes { fl := 0x3, code := [0x72, 0xFE] }
    (fun v => { v with  }) = true := by decide
theorem test_v351_jl_128 : Vec.passes { fl := 0x82, code := [0x7C, 0x80] }
    (fun v => { v with ip := 0x82 }) = true := by decide
theorem test_v352_jg_127 : Vec.passes { code := [0x7F, 0x7F] }
    (fun v => { v with ip := 0x181 }) = true := by decide
theorem test_v353_jle_5 : Vec.passes { fl := 0x882, code := [0x7E, 0x5] }
    (fun v => { v with ip := 0x102 }) = true := by decide
theorem test_v357_jmp_short_2 : Vec.passes { code := [0xEB, 0xFE] }
    (fun v => { v with  }) = true := by decide
theorem test_v359_jmp_near_3 : Vec.passes { code := [0xE9, 0xFD, 0xFF] }
    (fun v => { v with  }) = true := by decide
theorem test_v361_jmp_bx : Vec.passes { bx := 0x1234, code := [0xFF, 0xE3] }
    (fun v => { v with ip := 0x1234 }) = true := by decide
theorem test_v363_jmp_0xf000_0xe05b : Vec.passes { code := [0xEA, 0x5B, 0xE0, 0x0, 0xF0] }
    (fun v => { v with cs := 0xF000, ip := 0xE05B }) = true := by decide
theorem test_v365_call_0x10 : Vec.passes { sp := 0x100, ss := 0x2000, code := [0xE8, 0x10, 0x0] }
    (fun v => { v with sp := 0xFE, ip := 0x113, mem := [(0x200FE, 0x3), (0x200FF, 0x1)] }) = true := by decide
theorem test_v367_call_bx : Vec.passes { bx := 0x4000, sp := 0x100, ss := 0x2000, ip := 0x200, code := [0xFF, 0xD3] }
    (fun v => { v with sp := 0xFE, ip := 0x4000, mem := [(0x200FE, 0x2), (0x200FF, 0x2)] }) = true := by decide
theorem test_v370_call_0x1234_0x5678 : Vec.passes { sp := 0x100, ss := 0x2000, ip := 0x10, code := [0x9A, 0x78, 0x56, 0x34, 0x12] }
    (fun v => { v with sp := 0xFC, cs := 0x1234, ip := 0x5678, mem := [(0x200FC, 0x15), (0x200FD, 0x0), (0x200FE, 0x0), (0x200FF, 0x10)] }) = true := by decide
theorem test_v372_ret : Vec.passes { sp := 0xFE, ss := 0x2000, mem := [(0x200FE, 0x3), (0x200FF, 0x1)], code := [0xC3] }
    (fun v => { v with sp := 0x100, ip := 0x103 }) = true := by decide
theorem test_v373_ret_4 : Vec.passes { sp := 0xFA, ss := 0x2000, mem := [(0x200FA, 0x3), (0x200FB, 0x1)], code := [0xC2, 0x4, 0x0] }
    (fun v => { v with sp := 0x100, ip := 0x103 }) = true := by decide
theorem test_v375_retf : Vec.passes { sp := 0xFC, ss := 0x2000, mem := [(0x200FC, 0x15), (0x200FD, 0x0), (0x200FE, 0x0), (0x200FF, 0x10)], code := [0xCB] }
    (fun v => { v with sp := 0x100, ip := 0x15 }) = true := by decide
theorem test_v376_retf_2 : Vec.passes { sp := 0xFA, ss := 0x2000, mem := [(0x200FA, 0x15), (0x200FB, 0x0), (0x200FC, 0x0), (0x200FD, 0x10)], code := [0xCA, 0x2, 0x0] }
    (fun v => { v with sp := 0x100, ip := 0x15 }) = true := by decide
theorem test_v379_loop_2 : Vec.passes { code := [0xE2, 0xFE] }
    (fun v => { v with cx := 0xFFFF }) = true := by decide
theorem test_v381_loopne_5 : Vec.passes { cx := 0x2, code := [0xE0, 0xFB] }
    (fun v => { v with cx := 0x1, ip := 0xFD }) = true := by decide
theorem test_v383_loope_5 : Vec.passes { cx := 0x2, fl := 0x42, code := [0xE1, 0xFB] }
    (fun v => { v with cx := 0x1, ip := 0xFD }) = true := by decide
theorem test_v386_jcxz_2 : Vec.passes { code := [0xE3, 0x2] }
    (fun v => { v with ip := 0x104 }) = true := by decide
theorem test_v388_clc : Vec.passes { fl := 0xFD7, code := [0xF8] }
    (fun v => { v with ip := 0x101, fl := 0xFD6 }) = true := by decide
theorem test_v389_stc : Vec.passes { code := [0xF9] }
    (fun v => { v with ip := 0x101, fl := 0x3 }) = true := by decide
theorem test_v390_cmc : Vec.passes { fl := 0x3, code := [0xF5] }
    (fun v => { v with ip := 0x101, fl := 0x2 }) = true := by decide
theorem test_v392_cli : Vec.passes { fl := 0xFD7, code := [0xFA] }
    (fun v => { v with ip := 0x101, fl := 0xDD7 }) = true := by decide
theorem test_v393_sti : Vec.passes { code := [0xFB] }
    (fun v => { v with ip := 0x101, fl := 0x202 }) = true := by decide
theorem test_v394_cld : Vec.passes { fl := 0xFD7, code := [0xFC] }
    (fun v => { v with ip := 0x101, fl := 0xBD7 }) = true := by decide
theorem test_v395_std : Vec.passes { code := [0xFD] }
    (fun v => { v with ip := 0x101, fl := 0x402 }) = true := by decide
theorem test_v396_sahf : Vec.passes { ax := 0xFF00, code := [0x9E] }
    (fun v => { v with ip := 0x101, fl := 0xD7 }) = true := by decide
theorem test_v398_lahf : Vec.passes { fl := 0x8D5, code := [0x9F] }
    (fun v => { v with ax := 0xD500, ip := 0x101 }) = true := by decide
theorem test_v401_int_0x21 : Vec.passes { sp := 0x100, ss := 0x2000, ip := 0x10, fl := 0x202, mem := [(0x84, 0x34), (0x85, 0x12), (0x86, 0x70), (0x87, 0x0)], code := [0xCD, 0x21] }
    (fun v => { v with sp := 0xFA, cs := 0x70, ip := 0x1234, fl := 0x2, mem := [(0x200FA, 0x12), (0x200FB, 0x0), (0x200FC, 0x0), (0x200FD, 0x10), (0x200FE, 0x2), (0x200FF, 0x2)] }) = true := by decide
theorem test_v405_int3 : Vec.passes { sp := 0x100, ss := 0x2000, mem := [(0xC, 0x0), (0xD, 0x3), (0xE, 0x0), (0xF, 0x50)], code := [0xCC] }
    (fun v => { v with sp := 0xFA, cs := 0x5000, ip := 0x300, mem := [(0x200FA, 0x1), (0x200FB, 0x1), (0x200FC, 0x0), (0x200FD, 0x10), (0x200FE, 0x2), (0x200FF, 0x0)] }) = true := by decide
theorem test_v406_into : Vec.passes { sp := 0x100, ss := 0x2000, fl := 0x802, mem := [(0x10, 0x0), (0x11, 0x4), (0x12, 0x0), (0x13, 0x60)], code := [0xCE] }
    (fun v => { v with sp := 0xFA, cs := 0x6000, ip := 0x400, mem := [(0x200FA, 0x1), (0x200FB, 0x1), (0x200FC, 0x0), (0x200FD, 0x10), (0x200FE, 0x2), (0x200FF, 0x8)] }) = true := by decide
theorem test_v408_iret : Vec.passes { sp := 0xFA, ss := 0x2000, mem := [(0x200FA, 0x12), (0x200FB, 0x0), (0x200FC, 0x0), (0x200FD, 0x10), (0x200FE, 0xD7), (0x200FF, 0xA)], code := [0xCF] }
    (fun v => { v with sp := 0x100, ip := 0x12, fl := 0xAD7 }) = true := by decide
theorem test_v413_hlt : Vec.passes { ax := 0x1234, fl := 0xAD7, code := [0xF4] }
    (fun v => { v with ip := 0x101, halt := true }) = true := by decide

/-- J0 to J15: opcode byte, a FLAGS word that takes the jump, one that does not; the displacement is 0x10. -/
theorem test_conditional_jumps : ([
    (0x70, 0x802, 0x2), (0x71, 0x2, 0x802), (0x72, 0x3, 0x2), (0x73, 0x2, 0x3),
    (0x74, 0x42, 0x2), (0x75, 0x2, 0x42), (0x76, 0x42, 0x2), (0x77, 0x2, 0x42),
    (0x78, 0x82, 0x2), (0x79, 0x2, 0x82), (0x7A, 0x6, 0x2), (0x7B, 0x2, 0x6),
    (0x7C, 0x802, 0x2), (0x7D, 0x2, 0x802), (0x7E, 0x802, 0x2), (0x7F, 0x2, 0x802)] : List (Byte × Word × Word)).all (fun j =>
      Vec.passes { fl := j.2.1, code := [j.1, 0x10] } (fun v => { v with ip := 0x112 })
        && Vec.passes { fl := j.2.2, code := [j.1, 0x10] } (fun v => { v with ip := 0x102 })) = true := by decide

/-- Each IN makes one port access and shows it in one event (R86; V280 to V283 fix the answer, which is free here). -/
theorem test_in : ([.inAlIb 0x60, .inAxIb 0x40, .inAlDx, .inAxDx] : List Instr).all (fun i =>
    match exec i { State.reset with portCount := 4 } with
    | .next t => t.events.length == 1 && t.portCount == 5 && t.flags == State.reset.flags
    | .fault _ => false
    | .refused _ => false) = true := by decide

/-! ## Placing and stepping a table word (log 9) -/

theorem test_fetch_word : (match step (State.reset.withFetchWord 16 0xF400) with
    | .next t => decide (t = { State.reset with ip := 0xFFF1, halt := true, mem := [(0xFFFF0, 0xF4)] })
    | .fault _ => false
    | .refused _ => false) = true := by decide

/-! ## Reset and memory (E8, E9, M1 to M12) -/

theorem test_e9_end_to_end : (match step ((Vec.state {}).resetInput.placeCode 0 [0xB8, 0x34, 0x12]) with
    | .next t => t.gpr.ax == 0x1234 && t.ip == 0xFFF3 && t.seg.cs == 0xF000
    | .fault _ => false
    | .refused _ => false) = true := by decide

theorem test_translate : Machine.translate 0xF000 0xFFF0 = 0xFFFF0 ∧ Machine.translate 0xFFFF 0x0010 = 0
    ∧ Machine.translate 0xFFFF 0xFFFF = 0x0FFEF ∧ Machine.translate 0xFFFF 0x000F = 0xFFFFF ∧ Machine.translate 0 0x10005 = 5 := by decide

theorem test_ram_size : [0, 1, 0x100000, 0x100001, 0x300000].map ramSizeOf = [0x100000, 0x100000, 0x100000, 0x200000, 0x400000] := by decide

theorem test_e8_write_wraps : (State.reset.writeByte 0x100000 0x5A).readByte 0 = 0x5A := by decide

/-- R67 at the last physical address: the high byte lands at 0 (RAM of 1 MiB) and, at 0x100000, has no hook (R79). -/
theorem test_write_word_phys :
    let t := ({ State.reset with hooks := [0, 255] } : State).writeWordPhys 0xFFFFF 0x1234
    t.readByte 0xFFFFF = 0x34 ∧ t.readByte 0 = 0x12 ∧ t.events = [.hookWrite 255 0xFFFFF 0x34] := by decide

theorem test_packed_flags : [0x0000#16, 0xFFFF, 0xF72A, 0x08D5, 0xA5A5, 0x0002].all (fun x => (Flags.unpack x).pack == x) = true := by decide

/-! ## Witnesses: encoding and decoding -/

theorem witness_DecodeOfEncode : (Instr.addEvIv (.mem (.based .bp (.d16 0xFFFF))) 0x8000).wf = true
    ∧ (Instr.leaGvM .di (.direct 0)).wf = true ∧ (Instr.unimplementedOpcode 0xDF).wf = true
    ∧ (Instr.invalidOperandEncoding 0xFF 0xFF).wf = true := by decide

theorem witness_EncodeOfDecode : decode [0x01, 0xD8, 0xFF] = .ok (.addEvGv (.reg .ax) .bx, [0xFF])
    ∧ decode [0x66] = .ok (.unimplementedOpcode 0x66, []) ∧ decode [0xFF, 0xF8] = .ok (.invalidOperandEncoding 0xFF 0xF8, []) := by decide

/-- Each mod, the direct form, the highest and lowest register fields, and a member of each group list. -/
theorem witness_OperandAndGroupDecoding :
    byteRegs[0]? = some .al ∧ wordRegs[7]? = some .di
    ∧ operandBytes byteRegs 0 (.reg .bh) [0xC7] ∧ operandBytes wordRegs 7 (.mem (.direct 0x1234)) [0x3E, 0x34, 0x12]
    ∧ operandBytes wordRegs 7 (.mem (.based .bxSi .none)) [0x38] ∧ operandBytes byteRegs 0 (.mem (.based .bp (.d8 0x80))) [0x46, 0x80]
    ∧ operandBytes byteRegs 0 (.mem (.based .bx (.d16 0x8000))) [0x87, 0x00, 0x80]
    ∧ memOperandBytes 3 (.based .di .none) [0x1D] ∧ memOperandBytes 5 (.direct 0) [0x2E, 0, 0]
    ∧ (0xD2, 7, .sarEbCl) ∈ groupEb ∧ (0xFF, 6, .pushEv) ∈ groupEv ∧ (0x82, 7, .cmpEbIb82) ∈ groupEbIb
    ∧ (0x81, 5, .subEvIv) ∈ groupEvIv ∧ (0x83, 0, .addEvIbs) ∈ groupEvIbs := by
  refine ⟨rfl, rfl, .inl ⟨7, .bh, rfl, rfl, rfl⟩, .inr ⟨_, rfl, 0, 6, [0x34, 0x12], ⟨.bp, rfl, ?_⟩, rfl⟩,
    .inr ⟨_, rfl, 0, 0, [], ⟨.bxSi, rfl, ?_⟩, rfl⟩, .inr ⟨_, rfl, 1, 6, [0x80], ⟨.bp, rfl, ?_⟩, rfl⟩,
    .inr ⟨_, rfl, 2, 7, [0x00, 0x80], ⟨.bx, rfl, ?_⟩, rfl⟩, ⟨0, 5, [], ⟨.di, rfl, ?_⟩, rfl⟩, ⟨0, 6, [0, 0], ⟨.bp, rfl, ?_⟩, rfl⟩,
    ?_, ?_, ?_, ?_, ?_⟩
  · exact .inr (.inl ⟨rfl, rfl, _, _, rfl, rfl⟩)
  · exact .inl ⟨rfl, by decide, rfl, rfl⟩
  · exact .inr (.inr (.inl ⟨rfl, _, rfl, rfl⟩))
  · exact .inr (.inr (.inr ⟨rfl, _, _, rfl, rfl⟩))
  · exact .inl ⟨rfl, by decide, rfl, rfl⟩
  · exact .inr (.inl ⟨rfl, rfl, _, _, rfl, rfl⟩)
  · simp [groupEb, turnFields, turnsEb1, turnsEbCl]
  · simp [groupEv]
  · simp [groupEbIb, opsEbIb, List.range, List.range.loop]
  · simp [groupEvIv, opsEvIv, List.range, List.range.loop]
  · simp [groupEvIbs, opsEvIbs, List.range, List.range.loop]

/-- Both ends of each range of R117 and the bytes beside them, with five bytes to read; and a step with two prefixes before such a
byte. -/
theorem witness_BytesThatSelectNoInstruction :
    5 ≤ [0#8, 0, 0, 0, 0].length ∧ 0x0F ∈ noInstruction ∧ 0x60 ∈ noInstruction ∧ 0x6F ∈ noInstruction ∧ 0xDF ∈ noInstruction
    ∧ 0x5F ∉ noInstruction ∧ 0x70 ∉ noInstruction ∧ 0xD7 ∉ noInstruction ∧ 0xE0 ∉ noInstruction
    ∧ (∀ p ∈ [Instr.prefixEs, .lockF1], p.isPrefix = true) ∧ [Instr.prefixEs, .lockF1].length < 65536
    ∧ (Vec.state { code := [0x26, 0xF1, 0x60] }).fetchWindow 3 = [Instr.prefixEs, .lockF1].flatMap encode ++ [0x60] := by decide

/-- Each line of the table of R502, with a neighbour that is allowed; the three witnesses of the decoder's hypotheses; and both cases of
the report. -/
theorem witness_MalformedEncodingsAreFatal :
    (malformed 0x8D 3 0 ∧ ¬ malformed 0x8D 2 0 ∧ malformed 0xC4 3 7 ∧ malformed 0xC5 3 0 ∧ ¬ malformed 0xC5 0 0
      ∧ malformed 0xFF 3 3 ∧ malformed 0xFF 3 5 ∧ ¬ malformed 0xFF 3 4 ∧ ¬ malformed 0xFF 0 5 ∧ malformed 0x8C 0 4 ∧ malformed 0x8E 3 7
      ∧ ¬ malformed 0x8E 3 3 ∧ malformed 0x8F 0 1 ∧ ¬ malformed 0x8F 3 0 ∧ malformed 0xC6 0 7 ∧ malformed 0xC7 3 1
      ∧ ¬ malformed 0xC7 0 0 ∧ malformed 0xD0 0 6 ∧ malformed 0xD3 3 6 ∧ ¬ malformed 0xD3 0 7 ∧ malformed 0xF6 0 1
      ∧ malformed 0xF7 3 1 ∧ ¬ malformed 0xF7 3 0 ∧ malformed 0xFE 0 2 ∧ ¬ malformed 0xFE 0 1 ∧ malformed 0xFF 0 7
      ∧ ¬ malformed 0xFF 0 6)
    ∧ 4 ≤ [0#8, 0, 0, 0].length ∧ decode [0x8D, 0xC0, 0x00] = .ok (.invalidOperandEncoding 0x8D 0xC0, [0x00])
    ∧ decode [0x8D, 0x80, 0x34, 0x12] = .ok (.leaGvM .ax (.based .bxSi (.d16 0x1234)), [])
    ∧ (Vec.state { strict := true }).cfg.strictSourceSet = true ∧ State.reset.cfg.strictSourceSet = false := by
  exact ⟨by simp [malformed], by decide⟩

/-! ## Witnesses: the step -/

theorem witness_StepRunsTheDecodedInstruction :
    decode ((Vec.state { ip := 0xFFFF, code := [0x01, 0xD8] }).fetchWindow 6) = .ok (.addEvGv (.reg .ax) .bx, [0, 0, 0, 0])
    ∧ (Instr.addEvGv (.reg .ax) .bx).isPrefix = false ∧ 1 < 6 := by decide

theorem witness_PrefixesAndInstructionAreOneStep :
    (∀ p ∈ [Instr.prefixEs, .repz, .prefixDs, .repnz, .lockF0], p.isPrefix = true)
    ∧ [Instr.prefixEs, .repz, .prefixDs, .repnz, .lockF0].length < 65536 ∧ Instr.movsb.isPrefix = false ∧ Instr.movsb.wf = true
    ∧ (Vec.state { code := [0x26, 0xF3, 0x3E, 0xF2, 0xF0, 0xA4] }).fetchWindow (5 + (encode .movsb).length)
      = [Instr.prefixEs, .repz, .prefixDs, .repnz, .lockF0].flatMap encode ++ encode .movsb
    ∧ (∀ p ∈ ([] : List Instr), p.isPrefix = true) ∧ (Vec.state { code := [0xA4] }).fetchWindow 1 = encode .movsb := by decide

/-- A segment full of ES prefixes. -/
def prefixOnly : State := { State.reset with
  seg := { State.reset.seg with cs := 0 }, ip := 0, mem := (List.range 65536).map (fun k => (k, 0x26#8)) }

theorem get_map_const (l : List Nat) (b : Byte) (a : Nat) (h : a ∈ l) : Memory.get (l.map (fun k => (k, b))) a = b := by
  induction l with
  | nil => simp at h
  | cons k l ih =>
    simp only [List.map_cons, Memory.get]
    split
    · rfl
    · rename_i hk
      exact ih (by simpa [Ne.symm hk, eq_comm] using h)

theorem witness_PrefixOnlySegmentNeverCompletes :
    ∀ b ∈ prefixOnly.fetchWindow 65536, b ∈ ([0x26, 0x2E, 0x36, 0x3E, 0xF0, 0xF1, 0xF2, 0xF3] : List Byte) := by
  intro b hb
  simp only [State.fetchWindow, List.mem_map, List.mem_range] at hb
  obtain ⟨k, hk, rfl⟩ := hb
  have h : prefixOnly.readByte (prefixOnly.fetchAddr k) = 0x26#8 := by
    refine get_map_const _ _ _ ?_
    have hr : prefixOnly.ramSize = 1048576 := by decide
    have ha : prefixOnly.fetchAddr k = k := by
      simp [State.fetchAddr, prefixOnly, Machine.translate]
      omega
    rw [hr, ha, List.mem_range]
    omega
  rw [h]
  decide

theorem witness_TierTwoUnderStrictSourceSet :
    tierTwo .nop = true ∧ tierTwo (.aam 10) = true ∧ (Vec.state { strict := true }).cfg.strictSourceSet = true := by decide

theorem witness_PrefixesRecordThemselves : ((0x26, .prefixEs) : Byte × Instr) ∈ ([(0x26, .prefixEs), (0x2E, .prefixCs), (0x36, .prefixSs),
    (0x3E, .prefixDs), (0xF2, .repnz), (0xF3, .repz), (0xF0, .lockF0), (0xF1, .lockF1)] : List (Byte × Instr)) := by decide

/-! ## Witnesses: whole-machine rules -/

/-- Whether an outcome is a next state. -/
def goesOn (r : Result) : Bool :=
  match r with
  | .next _ => true
  | .fault _ => false
  | .refused _ => false

theorem goesOn_next {r : Result} (h : goesOn r = true) : ∃ t, r = .next t := by
  cases r with
  | next t => exact ⟨t, rfl⟩
  | fault f => simp [goesOn] at h
  | refused f => simp [goesOn] at h

theorem witness_StepKeepsInvariant : State.reset.Inv ∧ ∃ t, step State.reset = .next t :=
  ⟨⟨by decide, by decide, by decide, rfl⟩, goesOn_next (by decide)⟩

/-- A step that stores into a hooked page. -/
theorem witness_StepKeepsInstanceAndHistory :
    ∃ t, step (Vec.state { ax := 0x0741, ds := 0xB800, hooks := [0xB9], code := [0xA3, 0x00, 0x10] }) = .next t :=
  goesOn_next (by decide)

theorem witness_OpaqueFlagBitsAreWrittenOnlyByTheirInstructions :
    (∃ t, exec .clc State.reset = .next t) ∧ writesOpaque .clc = false ∧ (∃ t, exec (.aad 10) State.reset = .next t)
    ∧ writesOpaque (.aad 10) = false := ⟨goesOn_next (by decide), rfl, goesOn_next (by decide), rfl⟩

theorem witness_CodeSegmentIsWrittenOnlyByFarTransfers :
    (∃ t, exec (.movSwEw .ss (.reg .ax)) State.reset = .next t) ∧ writesCs (.movSwEw .ss (.reg .ax)) = false
    ∧ writesCs (.movSwEw .cs (.reg .ax)) = true ∧ (∃ t, exec (.callNear 0) State.reset = .next t) ∧ writesCs (.callNear 0) = false :=
  ⟨goesOn_next (by decide), by decide, by decide, goesOn_next (by decide), rfl⟩

theorem witness_OnlyHltHalts : State.reset.halt = false ∧ (∃ t, exec .hlt State.reset = .next t)
    ∧ ∃ t, exec .nop State.reset = .next t := ⟨rfl, goesOn_next (by decide), goesOn_next (by decide)⟩

/-- The suggested word, and one with every other opaque bit set. -/
theorem witness_ResetClearsNamedFlags : State.reset.cfg.wf ∧ { Config.launch with flagsReset := 0xF02A }.wf := by decide

theorem witness_ByteRegisterWrite : Reg16.cx ≠ byteParent .ah ∧ Reg16.ax ≠ byteParent .bl := by decide

/-- At the least size the second bound is empty, above it it holds. -/
theorem witness_RamSizeIsLeastPowerOfTwo : ramSizeOf 0 = 2 ^ 20 ∧ ramSizeOf 0x100000 = 2 ^ 20 ∧ ramSizeOf 0x100001 = 2 ^ 21 ∧ 20 < 21 := by decide

/-- The word at offset 0xFFFF in both modes, and below it. -/
theorem witness_TranslationAndWordRead : (0xFFFF#16).toNat = 0xFFFF ∧ (0xFFFE#16).toNat ≠ 0xFFFF
    ∧ (Vec.state {}).cfg.arch = .a8086 ∧ (Vec.state { arch := .a80186 }).cfg.arch ≠ .a8086 := by decide

/-! ## Witnesses: arithmetic -/

theorem witness_BinaryAlu : (.cmp, .cmpEbGb) ∈ opsEbGb ∧ (.adc, .adcGbEb) ∈ opsGbEb ∧ (.or, .orAlIb) ∈ opsAlIb
    ∧ (.sbb, .sbbEbIb82) ∈ opsEbIb ∧ (.sub, .subEvGv) ∈ opsEvGv ∧ (.xor, .xorGvEv) ∈ opsGvEv ∧ (.and, .andAxIv) ∈ opsAxIv
    ∧ (.add, .addEvIv) ∈ opsEvIv ∧ (.cmp, .cmpEvIbs) ∈ opsEvIbs := by
  simp [opsEbGb, opsGbEb, opsAlIb, opsEbIb, opsEvGv, opsGvEv, opsAxIv, opsEvIv, opsEvIbs]

theorem witness_CarryAndOverflowReadings : 8 ∈ [8, 16] ∧ 16 ∈ [8, 16] := by decide

theorem witness_TestWritesOnlyFlags : State.reset.cfg.strictSourceSet = false := rfl

theorem witness_IncDecKeepCarry : State.reset.cfg.strictSourceSet = false
    ∧ (∃ e, Instr.incEv (.mem (.direct 0xFFFF)) = .incEv e ∧ Operand.memory 0 0xFFFF = resolve State.reset e)
    ∧ (∃ r, Instr.incR16 .sp = .incR16 r ∧ Operand.register .sp = Operand.register r)
    ∧ (∃ e, Instr.decEv (.reg .di) = .decEv e ∧ Operand.register .di = resolve State.reset e)
    ∧ ∃ r, Instr.decR16 .ax = .decR16 r ∧ Operand.register .ax = Operand.register r :=
  ⟨rfl, ⟨_, rfl, rfl⟩, ⟨_, rfl, rfl⟩, ⟨_, rfl, rfl⟩, ⟨_, rfl, rfl⟩⟩

theorem witness_NotAndNeg : State.reset.cfg.strictSourceSet = false := rfl

theorem witness_AsciiMultiplyAndDivideAdjust : State.reset.cfg.strictSourceSet = false ∧ (0#8).toNat = 0 ∧ (1#8).toNat ≠ 0
    ∧ (255#8).toNat ≠ 0 := by decide

/-- Counts 0, 1, 8 and 255 by CL in both modes; 8 and 16 leave the 80186 count at 0. -/
theorem witness_ShiftsAndRotates : (.rcl, .rclEb1) ∈ turnsEb1 ∧ (.sar, .sarEv1) ∈ turnsEv1 ∧ (.rol, .rolEbCl) ∈ turnsEbCl
    ∧ (.shr, .shrEvCl) ∈ turnsEvCl
    ∧ (let n := fun (v : Vec) (w : Nat) =>
        let s := v.state
        if s.cfg.arch = .a8086 then (s.reg8 .cl).toNat else (s.reg8 .cl).toNat % w
      n { cx := 0xFF00 } 8 = 0 ∧ n { cx := 1 } 8 ≠ 0 ∧ n { cx := 0xFF } 16 ≠ 0 ∧ n { cx := 8, arch := .a80186 } 8 = 0
        ∧ n { cx := 7, arch := .a80186 } 8 ≠ 0 ∧ n { cx := 16, arch := .a80186 } 16 = 0 ∧ n { cx := 0xFF, arch := .a80186 } 16 ≠ 0) := by
  refine ⟨by simp [turnsEb1], by simp [turnsEv1], by simp [turnsEbCl], by simp [turnsEvCl], by decide⟩

theorem witness_SarRoundsDown : 8 ∈ [8, 16] ∧ 16 ∈ [8, 16] ∧ 0 < 8 ∧ 7 < 8 ∧ 15 < 16 := by decide

/-- Divisor 0; the largest quotient that fits; the first that does not; at both widths. -/
theorem witness_UnsignedDivide :
    (let n := fun (v : Vec) => (v.state.reg16 .ax).toNat
      let d := fun (v : Vec) => (v.state.readE8 (resolve v.state (.reg .bl))).toNat
      d {} = 0 ∧ 0xFF < n { ax := 0x100, bx := 1 } / d { ax := 0x100, bx := 1 }
        ∧ ¬ (d { ax := 0xFF, bx := 1 } = 0 ∨ 0xFF < n { ax := 0xFF, bx := 1 } / d { ax := 0xFF, bx := 1 }))
    ∧ (let n := fun (v : Vec) => (v.state.reg16 .dx).toNat * 65536 + (v.state.reg16 .ax).toNat
      let d := fun (v : Vec) => (v.state.readE16 (resolve v.state (.reg .bx))).toNat
      d {} = 0 ∧ 0xFFFF < n { dx := 1, bx := 1 } / d { dx := 1, bx := 1 }
        ∧ ¬ (d { ax := 0xFFFF, bx := 1 } = 0 ∨ 0xFFFF < n { ax := 0xFFFF, bx := 1 } / d { ax := 0xFFFF, bx := 1 })) := by decide

/-- Divisor 0; the quotients -129, -128, 127 and 128; -32769, -32768, 32767 and 32768. -/
theorem witness_SignedDivide :
    (let n := fun (v : Vec) => (v.state.reg16 .ax).toInt
      let d := fun (v : Vec) => (v.state.readE8 (resolve v.state (.reg .bl))).toInt
      d {} = 0 ∧ (n { ax := 0xFF7F, bx := 1 }).tdiv (d { bx := 1 }) < -128 ∧ 127 < (n { ax := 0x80, bx := 1 }).tdiv (d { bx := 1 })
        ∧ ¬ (d { bx := 1 } = 0 ∨ (n { ax := 0xFF80 }).tdiv (d { bx := 1 }) < -128 ∨ 127 < (n { ax := 0xFF80 }).tdiv (d { bx := 1 }))
        ∧ ¬ (d { bx := 1 } = 0 ∨ (n { ax := 0x7F }).tdiv (d { bx := 1 }) < -128 ∨ 127 < (n { ax := 0x7F }).tdiv (d { bx := 1 })))
    ∧ (let n := fun (v : Vec) => (v.state.reg16 .dx).toInt * 65536 + (v.state.reg16 .ax).toNat
      let d := fun (v : Vec) => (v.state.readE16 (resolve v.state (.reg .bx))).toInt
      d {} = 0 ∧ (n { dx := 0xFFFF, ax := 0x7FFF }).tdiv (d { bx := 1 }) < -32768 ∧ 32767 < (n { ax := 0x8000 }).tdiv (d { bx := 1 })
        ∧ ¬ (d { bx := 1 } = 0 ∨ (n { dx := 0xFFFF, ax := 0x8000 }).tdiv (d { bx := 1 }) < -32768
          ∨ 32767 < (n { dx := 0xFFFF, ax := 0x8000 }).tdiv (d { bx := 1 }))
        ∧ ¬ (d { bx := 1 } = 0 ∨ (n { ax := 0x7FFF }).tdiv (d { bx := 1 }) < -32768
          ∨ 32767 < (n { ax := 0x7FFF }).tdiv (d { bx := 1 }))) := by decide

/-! ## Witnesses: transfer, ports, stack, strings -/

theorem witness_ExchangeSwapsOperands : State.reset.cfg.strictSourceSet = false
    ∧ (.xchgAxSp, .sp) ∈ ([(.xchgAxCx, .cx), (.xchgAxDx, .dx), (.xchgAxBx, .bx), (.xchgAxSp, .sp), (.xchgAxBp, .bp),
      (.xchgAxSi, .si), (.xchgAxDi, .di)] : List (Instr × Reg16)) := by decide

/-- The direct form, a BP-based form with a displacement and one with an index, with and without an override: each resolves to memory, so
every clause of the statement is met. -/
theorem witness_OperandResolution :
    let s : State := { State.reset with seg := ⟨1, 2, 3, 4, 0, 0⟩, gpr := { State.reset.gpr with bp := 0xFFFF, si := 2 } }
    let u : State := { s with ctx := { s.ctx with override := some .cs } }
    (resolve s (.mem (.direct 0xFFFF)) : Operand Reg8) = .memory 4 0xFFFF
    ∧ (resolve s (.mem (.based .bp (.d8 0x80))) : Operand Reg8) = .memory 3 0xFF7F
    ∧ (resolve s (.mem (.based .bpSi .none)) : Operand Reg16) = .memory 3 1
    ∧ (resolve u (.mem (.based .bpSi .none)) : Operand Reg16) = .memory 2 1
    ∧ (resolve u (.reg .bp) : Operand Reg16) = .register .bp := by decide

theorem witness_LoadFarPointer : State.reset.cfg.strictSourceSet = false := rfl

theorem witness_TranslateAndSignExtend : State.reset.cfg.strictSourceSet = false := rfl

theorem witness_PortInstructions :
    (0xE5, .inAxIb) ∈ ([(0xE4, .inAlIb), (0xE5, .inAxIb), (0xE6, .outIbAl), (0xE7, .outIbAx)] : List (Byte × (Byte → Instr)))
    ∧ (0xEF, .outDxAx) ∈ ([(0xEC, .inAlDx), (0xED, .inAxDx), (0xEE, .outDxAl), (0xEF, .outDxAx)] : List (Byte × Instr)) := by simp

theorem witness_PushStoresBelowTheTop : (0x0E, .pushCs, fun s => s.seg.cs) ∈ pushes ∧ State.reset.cfg.strictSourceSet = false
    ∧ (Vec.state { arch := .a80186 }).cfg.strictSourceSet = false := by
  refine ⟨by simp [pushes], rfl, rfl⟩

theorem witness_PopReadsTheTop : (.popSs, .ss) ∈ ([(.popEs, .es), (.popSs, .ss), (.popDs, .ds)] : List (Instr × SReg))
    ∧ State.reset.cfg.strictSourceSet = false := by decide

theorem witness_StringInstructionRunsOnce : State.reset.ctx.rep = none := rfl

/-- CX = 0 and CX = 1 under a repeat prefix, and both ends of the test of a comparing iteration: equal bytes end it under REPNZ, not
under REPZ. -/
theorem witness_RepeatLoopUnrolls : .cmpsb ∈ strings ∧ .movsw ∈ strings ∧ comparing .cmpsb = true ∧ comparing .movsw = false
    ∧ (let s : State := { State.reset with ctx := { DecodeCtx.clear with rep := some .repnz } }
      let u : State := { s with gpr := { s.gpr with cx := 1 } }
      s.ctx.rep = some .repnz ∧ s.gpr.cx.toNat = 0 ∧ u.ctx.rep = some .repnz ∧ u.gpr.cx.toNat ≠ 0
        ∧ (match exec .cmpsb { u with ctx := { u.ctx with rep := none } } with
          | .next t => t.flags.zf
          | .fault _ => false
          | .refused _ => false) = true) := by decide

theorem witness_RepeatedMoveAdvancesIndexes :
    (.movsw, 2, true, true) ∈ ([(.movsb, 1, true, true), (.movsw, 2, true, true), (.stosb, 1, false, true), (.stosw, 2, false, true),
      (.lodsb, 1, true, false), (.lodsw, 2, true, false)] : List (Instr × Nat × Bool × Bool))
    ∧ ({ State.reset with ctx := { DecodeCtx.clear with rep := some .repz } } : State).ctx.rep = some .repz := by decide

/-! ## Witnesses: control, flags, interrupts -/

theorem witness_ConditionalJumps : (0x7F, .jnle, fun f => decide (f.zf = false ∧ f.sf = f.of)) ∈ jumps := by simp [jumps]

/-- A taken and an untaken LOOPE and LOOPNE, at CX = 1 (which becomes 0) and CX = 0 (which becomes 0xFFFF). -/
theorem witness_LoopInstructions :
    (BitVec.ofNat 16 ((1 + 65535) % 65536)).toNat = 0 ∧ (BitVec.ofNat 16 ((0 + 65535) % 65536)).toNat ≠ 0
    ∧ (Vec.state { fl := 0x42 }).flags.zf = true ∧ State.reset.flags.zf = false := by decide

theorem witness_SingleFlagsHltAndNop : State.reset.cfg.strictSourceSet = false
    ∧ (0xF8, .clc, fun f => { f with cf := false }) ∈ ([(0xF8, .clc, fun f => { f with cf := false }), (0xF9, .stc, fun f => { f with cf := true }),
      (0xF5, .cmc, fun f => { f with cf := !f.cf }), (0xFA, .cli, fun f => { f with other := f.other &&& ~~~0x0200#16 }),
      (0xFB, .sti, fun f => { f with other := f.other ||| 0x0200#16 }), (0xFC, .cld, fun f => { f with other := f.other &&& ~~~0x0400#16 }),
      (0xFD, .std, fun f => { f with other := f.other ||| 0x0400#16 })] : List (Byte × Instr × (Flags → Flags))) :=
  ⟨rfl, List.mem_cons_self⟩

theorem witness_SahfAndLahf : State.reset.flags.other &&& 0x08D5#16 = 0#16 := by decide

theorem witness_SoftwareInterrupts : (Vec.state { fl := 0x0802 }).flags.of = true ∧ State.reset.flags.of = false := by decide

theorem witness_InterruptThenReturnRestores : State.reset.flags.other &&& 0x08D5#16 = 0#16
    ∧ (Vec.state { fl := 0xFFFF }).flags.other &&& 0x08D5#16 = 0#16 := by decide

end Sys2Proof.Tests
end

section
/-! PROOFS of the whole-machine rules of 00_scope.md: what every instruction and every step is made of, and RAM_SIZE. -/

namespace Sys2Proof.Machine

/-! ### The moves an instruction is made of -/

/-- State `t` comes from `s` by the named operations of 10_state.md and 20_memory.md alone. `exec_moves` and `step_moves` say that
an instruction and a step do nothing else, so what every operation keeps, every step keeps. -/
inductive Moves (s : State) : State → Prop
  | refl : Moves s s
  | setReg16 {t} (h : Moves s t) (r : Reg16) (v : Word) : Moves s (t.setReg16 r v)
  | setSreg {t} (h : Moves s t) (r : SReg) (v : Word) : Moves s (t.setSreg r v)
  | setIp {t} (h : Moves s t) (v : Word) : Moves s (t.setIp v)
  | setFlags {t} (h : Moves s t) (f : Flags) : Moves s (t.setFlags f)
  | setCtx {t} (h : Moves s t) (c : DecodeCtx) : Moves s (t.setCtx c)
  | setHalt {t} (h : Moves s t) (b : Bool) : Moves s (t.setHalt b)
  | tookDraws {t} (h : Moves s t) (n : Nat) : Moves s (t.tookDraws n)
  | writeByte {t} (h : Moves s t) (a : Nat) (v : Byte) : Moves s (t.writeByte a v)
  | afterPortRead {t} (h : Moves s t) (port : Word) (w : Width) : Moves s (t.afterPortRead port w)
  | portWrite {t} (h : Moves s t) (port : Word) (w : Width) (v : Word) : Moves s (t.portWrite port w v)

namespace Moves

variable {s t u : State}

theorem trans (h : Moves s t) (h' : Moves t u) : Moves s u := by
  induction h' with
  | refl => exact h
  | setReg16 _ r v ih => exact ih.setReg16 r v
  | setSreg _ r v ih => exact ih.setSreg r v
  | setIp _ v ih => exact ih.setIp v
  | setFlags _ f ih => exact ih.setFlags f
  | setCtx _ c ih => exact ih.setCtx c
  | setHalt _ b ih => exact ih.setHalt b
  | tookDraws _ n ih => exact ih.tookDraws n
  | writeByte _ a v ih => exact ih.writeByte a v
  | afterPortRead _ port w ih => exact ih.afterPortRead port w
  | portWrite _ port w v ih => exact ih.portWrite port w v

/-! ### The shared operations -/

theorem setReg8 (h : Moves s t) (r : Reg8) (v : Byte) : Moves s (t.setReg8 r v) := h.setReg16 _ _

theorem write8 (h : Moves s t) (seg off : Word) (v : Byte) : Moves s (t.write8 seg off v) := h.writeByte _ _

theorem write16 (h : Moves s t) (seg off v : Word) : Moves s (t.write16 seg off v) := (h.writeByte _ _).writeByte _ _

theorem writeE8 (h : Moves s t) (o : Operand Reg8) (v : Byte) : Moves s (t.writeE8 o v) := by
  cases o with
  | register r => exact h.setReg8 r v
  | memory seg off => exact h.write8 seg off v

theorem writeE16 (h : Moves s t) (o : Operand Reg16) (v : Word) : Moves s (t.writeE16 o v) := by
  cases o with
  | register r => exact h.setReg16 r v
  | memory seg off => exact h.write16 seg off v

theorem push16 (h : Moves s t) (v : Word) : Moves s (t.push16 v) := (h.setReg16 _ _).write16 _ _ _

theorem dropTop (h : Moves s t) : Moves s t.dropTop := h.setReg16 _ _

theorem interrupt (h : Moves s t) (n : Byte) : Moves s (t.interrupt n) :=
  (((((h.push16 _).push16 _).push16 _).setIp _).setSreg _ _).setFlags _

theorem interruptReturn (h : Moves s t) : Moves s t.interruptReturn :=
  ((h.dropTop.dropTop.dropTop.setIp _).setSreg _ _).setFlags _

theorem goFar (h : Moves s t) (off seg : Word) : Moves s (goFar off seg t) := (h.setSreg _ _).setIp _

theorem aluTo8 (h : Moves s t) (op : AluOp) (dst : Operand Reg8) (r : Byte) : Moves s (aluTo8 op dst r t) := by
  unfold Machine.aluTo8
  split
  · exact h.setFlags _
  · exact (h.setFlags _).writeE8 _ _

theorem aluTo16 (h : Moves s t) (op : AluOp) (dst : Operand Reg16) (r : Word) : Moves s (aluTo16 op dst r t) := by
  unfold Machine.aluTo16
  split
  · exact h.setFlags _
  · exact (h.setFlags _).writeE16 _ _

theorem shiftTo8 (h : Moves s t) (op : ShiftOp) (n : Nat) (dst : Operand Reg8) : Moves s (shiftTo8 op n dst t) := by
  unfold Machine.shiftTo8
  split
  · exact h
  · exact ((h.setFlags _).tookDraws _).writeE8 _ _

theorem shiftTo16 (h : Moves s t) (op : ShiftOp) (n : Nat) (dst : Operand Reg16) : Moves s (shiftTo16 op n dst t) := by
  unfold Machine.shiftTo16
  split
  · exact h
  · exact ((h.setFlags _).tookDraws _).writeE16 _ _

theorem withMulFlags (h : Moves s t) (high : Bool) : Moves s (withMulFlags high t) := (h.setFlags _).tookDraws _

theorem withDivFlags (h : Moves s t) : Moves s (withDivFlags t) := (h.setFlags _).tookDraws _

theorem divideInto8 (h : Moves s t) (r : Option (Byte × Byte)) : Moves s (divideInto8 r t) := by
  cases r with
  | none => exact h.interrupt 0
  | some q => exact (h.setReg16 _ _).withDivFlags

theorem divideInto16 (h : Moves s t) (r : Option (Word × Word)) : Moves s (divideInto16 r t) := by
  cases r with
  | none => exact h.interrupt 0
  | some q => exact ((h.setReg16 _ _).setReg16 _ _).withDivFlags

theorem asciiAdjust (h : Moves s t) (adjust : Word → Flags → Word) : Moves s (asciiAdjust adjust t) :=
  ((h.setReg16 _ _).setFlags _).tookDraws _

theorem pushSp (h : Moves s t) : Moves s (pushSp t) := by
  unfold Machine.pushSp
  split
  · exact h.push16 _
  · exact h.push16 _

theorem pushOperand (h : Moves s t) (e : Rm Reg16) : Moves s (pushOperand e t) := by
  unfold Machine.pushOperand
  split
  · exact h.pushSp
  · exact h.push16 _
  · exact h.push16 _

theorem jumpIf (h : Moves s t) (taken : Bool) (d : Byte) : Moves s (jumpIf taken d t) := by
  unfold Machine.jumpIf
  split
  · exact h.setIp _
  · exact h

theorem loopIf (h : Moves s t) (also : Bool) (d : Byte) : Moves s (loopIf also d t) := (h.setReg16 _ _).jumpIf _ _

/-! ### String instructions -/

theorem advanceSi (h : Moves s t) (size : Word) : Moves s (advanceSi size t) := h.setReg16 _ _

theorem advanceDi (h : Moves s t) (size : Word) : Moves s (advanceDi size t) := h.setReg16 _ _

theorem repeatLoop {iter : Word → State → State} (hiter : ∀ src u, Moves u (iter src u)) (compares : Bool) (mode : RepMode)
    (later : Word) (n : Nat) (seg : Word) (h : Moves s t) : Moves s (repeatLoop compares mode iter later n seg t) := by
  induction n generalizing seg t with
  | zero => exact h
  | succ n ih =>
    have hone : Moves s ((iter seg t).setReg16 .cx ((iter seg t).reg16 .cx - 1)) := (h.trans (hiter seg t)).setReg16 _ _
    simp only [Machine.repeatLoop]
    split
    · exact hone
    · exact ih later hone

/-- A string instruction is made of moves when its one iteration is. -/
theorem repeatString {iter : Word → State → State} (hiter : ∀ src u, Moves u (iter src u)) (compares : Bool) (s : State) :
    Moves s (repeatString compares iter s) := by
  unfold Machine.repeatString
  split
  · exact hiter _ s
  · exact repeatLoop hiter _ _ _ _ _ .refl

end Moves

/-! ### Instructions and steps -/

theorem moves_of_next {s u t : State} (hu : Moves s u) (h : (.next u : Result) = .next t) : Moves s t := by
  cases h
  exact hu

/-- R116: a tier 2 instruction that completes has its ordinary effect. -/
theorem moves_of_tier2 {s u t : State} {op : Byte} (hu : Moves s u) (h : s.tier2 op u = .next t) : Moves s t := by
  unfold State.tier2 at h
  split at h
  · cases h
  · exact moves_of_next hu h

/-- Every instruction that completes is made of moves. -/
theorem exec_moves {i : Instr} {s t : State} (h : exec i s = .next t) : Moves s t := by
  have start : Moves s s := .refl
  cases i with
  -- the eight binary ALU operations (R175 to R189)
  | addEbGb | orEbGb | adcEbGb | sbbEbGb | andEbGb | subEbGb | xorEbGb | cmpEbGb
  | addGbEb | orGbEb | adcGbEb | sbbGbEb | andGbEb | subGbEb | xorGbEb | cmpGbEb
  | addAlIb | orAlIb | adcAlIb | sbbAlIb | andAlIb | subAlIb | xorAlIb | cmpAlIb
  | addEbIb | orEbIb | adcEbIb | sbbEbIb | andEbIb | subEbIb | xorEbIb | cmpEbIb
  | addEbIb82 | orEbIb82 | adcEbIb82 | sbbEbIb82 | andEbIb82 | subEbIb82 | xorEbIb82 | cmpEbIb82 =>
    exact moves_of_next (start.aluTo8 _ _ _) h
  | addEvGv | orEvGv | adcEvGv | sbbEvGv | andEvGv | subEvGv | xorEvGv | cmpEvGv
  | addGvEv | orGvEv | adcGvEv | sbbGvEv | andGvEv | subGvEv | xorGvEv | cmpGvEv
  | addAxIv | orAxIv | adcAxIv | sbbAxIv | andAxIv | subAxIv | xorAxIv | cmpAxIv
  | addEvIv | orEvIv | adcEvIv | sbbEvIv | andEvIv | subEvIv | xorEvIv | cmpEvIv
  | addEvIbs | orEvIbs | adcEvIbs | sbbEvIbs | andEvIbs | subEvIbs | xorEvIbs | cmpEvIbs =>
    exact moves_of_next (start.aluTo16 _ _ _) h
  -- TEST, INC, DEC, NEG, NOT (R190 to R197)
  | testEbGb | testEvGv | testAlIb | testAxIv | testEbIb | testEvIv => exact moves_of_tier2 (start.setFlags _) h
  | incEb | decEb | negEb => exact moves_of_tier2 ((start.setFlags _).writeE8 _ _) h
  | incEv | decEv | negEv => exact moves_of_tier2 ((start.setFlags _).writeE16 _ _) h
  | incR16 r | decR16 r => exact moves_of_tier2 ((start.setFlags _).writeE16 (.register r) _) h
  | notEb => exact moves_of_tier2 (start.writeE8 _ _) h
  | notEv => exact moves_of_tier2 (start.writeE16 _ _) h
  -- BCD adjust (R220 to R231)
  | daa | das => exact moves_of_next ((start.setReg8 _ _).setFlags _) h
  | aaa | aas => exact moves_of_next (start.asciiAdjust _) h
  | aam imm =>
    refine moves_of_tier2 ?_ h
    split
    · exact start.interrupt 0
    · exact ((start.setReg16 _ _).setFlags _).tookDraws _
  | aad => exact moves_of_tier2 (((start.setReg16 _ _).setFlags _).tookDraws _) h
  -- shifts and rotates (R243 to R252)
  | rolEb1 | rolEbCl | rorEb1 | rorEbCl | rclEb1 | rclEbCl | rcrEb1 | rcrEbCl
  | shlEb1 | shlEbCl | shrEb1 | shrEbCl | sarEb1 | sarEbCl => exact moves_of_next (start.shiftTo8 _ _ _) h
  | rolEv1 | rolEvCl | rorEv1 | rorEvCl | rclEv1 | rclEvCl | rcrEv1 | rcrEvCl
  | shlEv1 | shlEvCl | shrEv1 | shrEvCl | sarEv1 | sarEvCl => exact moves_of_next (start.shiftTo16 _ _ _) h
  -- multiply and divide (R271 to R278)
  | mulEb | imulEb => exact moves_of_next ((start.setReg16 _ _).withMulFlags _) h
  | mulEv | imulEv => exact moves_of_next (((start.setReg16 _ _).setReg16 _ _).withMulFlags _) h
  | divEb | idivEb => exact moves_of_next (start.divideInto8 _) h
  | divEv | idivEv => exact moves_of_next (start.divideInto16 _) h
  -- data transfer (R300 to R325)
  | movEbGb | movEbIb => exact moves_of_next (start.writeE8 _ _) h
  | movEvGv | movEvIv | movEwSw => exact moves_of_next (start.writeE16 _ _) h
  | movGbEb | movAlOb | movR8Ib | lahf => exact moves_of_next (start.setReg8 _ _) h
  | movGvEv | movAxOv | movR16Iv | leaGvM => exact moves_of_next (start.setReg16 _ _) h
  | movSwEw => exact moves_of_next (start.setSreg _ _) h
  | movObAl => exact moves_of_next (start.write8 _ _ _) h
  | movOvAx => exact moves_of_next (start.write16 _ _ _) h
  | xchgEbGb => exact moves_of_tier2 ((start.writeE8 _ _).setReg8 _ _) h
  | xchgEvGv => exact moves_of_tier2 ((start.writeE16 _ _).setReg16 _ _) h
  | xchgAxCx | xchgAxDx | xchgAxBx | xchgAxSp | xchgAxBp | xchgAxSi | xchgAxDi =>
    exact moves_of_tier2 ((start.setReg16 _ _).setReg16 _ _) h
  | lesGvMp | ldsGvMp => exact moves_of_tier2 ((start.setReg16 _ _).setSreg _ _) h
  | xlat => exact moves_of_tier2 (start.setReg8 _ _) h
  | cbw | cwd => exact moves_of_tier2 (start.setReg16 _ _) h
  | inAlIb | inAlDx => exact moves_of_next ((start.afterPortRead _ _).setReg8 _ _) h
  | inAxIb | inAxDx => exact moves_of_next ((start.afterPortRead _ _).setReg16 _ _) h
  | outIbAl | outIbAx | outDxAl | outDxAx => exact moves_of_next (start.portWrite _ _ _) h
  -- the stack (R340 to R351)
  | pushAx | pushCx | pushDx | pushBx | pushBp | pushSi | pushDi | pushEs | pushCs | pushSs | pushDs | pushf =>
    exact moves_of_next (start.push16 _) h
  | pushSp => exact moves_of_next start.pushSp h
  | pushEv => exact moves_of_tier2 (start.pushOperand _) h
  | popR16 => exact moves_of_next (start.dropTop.setReg16 _ _) h
  | popEv => exact moves_of_tier2 (start.dropTop.writeE16 _ _) h
  | popEs | popSs | popDs => exact moves_of_next (start.dropTop.setSreg _ _) h
  | popf => exact moves_of_next (start.dropTop.setFlags _) h
  -- string instructions (R371 to R383)
  | movsb => exact moves_of_next (.repeatString (fun _ _ => ((Moves.refl.write8 _ _ _).advanceSi _).advanceDi _) _ s) h
  | movsw => exact moves_of_next (.repeatString (fun _ _ => ((Moves.refl.write16 _ _ _).advanceSi _).advanceDi _) _ s) h
  | cmpsb | cmpsw => exact moves_of_next (.repeatString (fun _ _ => ((Moves.refl.setFlags _).advanceSi _).advanceDi _) _ s) h
  | stosb => exact moves_of_next (.repeatString (fun _ _ => (Moves.refl.write8 _ _ _).advanceDi _) _ s) h
  | stosw => exact moves_of_next (.repeatString (fun _ _ => (Moves.refl.write16 _ _ _).advanceDi _) _ s) h
  | lodsb => exact moves_of_next (.repeatString (fun _ _ => (Moves.refl.setReg8 _ _).advanceSi _) _ s) h
  | lodsw => exact moves_of_next (.repeatString (fun _ _ => (Moves.refl.setReg16 _ _).advanceSi _) _ s) h
  | scasb | scasw => exact moves_of_next (.repeatString (fun _ _ => (Moves.refl.setFlags _).advanceDi _) _ s) h
  -- control transfer (R402 to R428)
  | jo | jno | jb | jnb | je | jne | jbe | jnbe | js | jns | jp | jnp | jl | jnl | jle | jnle | jcxz =>
    exact moves_of_next (start.jumpIf _ _) h
  | loopne | loope | loop => exact moves_of_next (start.loopIf _ _) h
  | jmpShort | jmpNear | jmpEv => exact moves_of_next (start.setIp _) h
  | jmpFar | jmpMp => exact moves_of_next (start.goFar _ _) h
  | callNear | callEv => exact moves_of_next ((start.push16 _).setIp _) h
  | callFar | callMp => exact moves_of_next (((start.push16 _).push16 _).goFar _ _) h
  | retNear => exact moves_of_next (start.dropTop.setIp _) h
  | retNearIw => exact moves_of_next ((start.dropTop.setIp _).setReg16 _ _) h
  | retFar => exact moves_of_next (start.dropTop.dropTop.goFar _ _) h
  | retFarIw => exact moves_of_next ((start.dropTop.dropTop.goFar _ _).setReg16 _ _) h
  -- flags, interrupts, HLT, NOP (R450 to R478)
  | clc | stc | cmc | cli | sti | cld | std | sahf => exact moves_of_next (start.setFlags _) h
  | intIb | int3 => exact moves_of_next (start.interrupt _) h
  | into =>
    refine moves_of_next ?_ h
    split
    · exact start.interrupt 4
    · exact start
  | iret => exact moves_of_next start.interruptReturn h
  | hlt => exact moves_of_next (start.setHalt _) h
  | nop => exact moves_of_tier2 start h
  -- the eight bytes of R105
  | prefixEs | prefixCs | prefixSs | prefixDs | lockF0 | lockF1 | repnz | repz => exact moves_of_next (start.setCtx _) h
  -- the two fatal decode errors (R501, R502) have no next state
  | unimplementedOpcode => cases h
  | invalidOperandEncoding =>
    simp only [exec, execInvalidOperandEncoding] at h
    split at h <;> cases h

theorem fetchDecode_moves {s : State} {p : Instr × State} (h : s.fetchDecode = some p) : Moves s p.2 := by
  unfold State.fetchDecode at h
  split at h
  · cases h
    exact (Moves.refl.setIp _).setCtx _
  · cases h

/-- R48: a step ends in a next state when its instruction does, with the decode context cleared. -/
theorem endStep_next {r : Result} {t : State} (h : endStep r = .next t) : ∃ u, r = .next u ∧ u.setCtx DecodeCtx.clear = t := by
  cases r with
  | next u => exact ⟨u, rfl, Host.Outcome.next.inj h⟩
  | fault f => cases h
  | refused f => cases h

theorem prefixLoop_moves {n : Nat} {s t : State} (h : s.prefixLoop n = .next t) : Moves s t := by
  induction n generalizing s with
  | zero => cases h
  | succ n ih =>
    unfold State.prefixLoop at h
    split at h
    · cases h
    next p hfetch =>
      have hp : Moves s p.2 := fetchDecode_moves hfetch
      split at h
      · split at h
        next s' hexec => exact (hp.trans (exec_moves hexec)).trans (ih h)
        · cases h
        · cases h
      · obtain ⟨u, hexec, rfl⟩ := endStep_next h
        exact (hp.trans (exec_moves hexec)).setCtx _

/-- Every step that completes is made of moves (R104). -/
theorem step_moves {s t : State} (h : step s = .next t) : Moves s t :=
  ((Moves.refl.setCtx _).setHalt _).trans (prefixLoop_moves h)

/-! ### What no step changes (R7, R28, R78, R560) -/

/-- What is fixed when the core is constructed is the same in `t` as in `s`, and `t`'s events begin with those of `s`. -/
structure KeepsFixedParts (s t : State) : Prop where
  cfg : t.cfg = s.cfg
  hooks : t.hooks = s.hooks
  fs : t.seg.fs = s.seg.fs
  gs : t.seg.gs = s.seg.gs
  events : s.events <+: t.events

/-- R65, R560: a byte store can only add events. -/
theorem KeepsFixedParts.writeByte {s t : State} (h : KeepsFixedParts s t) (a : Nat) (v : Byte) :
    KeepsFixedParts s (t.writeByte a v) := by
  obtain ⟨l, e⟩ := t.writeByte_eq a v
  rw [e]
  exact { h with events := h.events.trans (List.prefix_append ..) }

theorem Moves.keepsFixedParts {s t : State} (h : Moves s t) : KeepsFixedParts s t := by
  induction h with
  | refl => exact ⟨rfl, rfl, rfl, rfl, List.prefix_rfl⟩
  | setReg16 _ _ _ ih | setIp _ _ ih | setFlags _ _ ih | setCtx _ _ ih | setHalt _ _ ih | tookDraws _ _ ih => exact { ih with }
  | setSreg _ r v ih => exact { ih with fs := (Segs.set_fs ..).trans ih.fs, gs := (Segs.set_gs ..).trans ih.gs }
  | writeByte _ a v ih => exact ih.writeByte a v
  | afterPortRead _ _ _ ih | portWrite _ _ _ _ ih => exact { ih with events := ih.events.trans (List.prefix_append ..) }

/-- Settles O15: a step is made of moves, and each move keeps the fixed parts and can only add events. -/
theorem stepKeepsInstanceAndHistory : Obligations.StepKeepsInstanceAndHistory := by
  intro s t h
  obtain ⟨hcfg, hhooks, hfs, hgs, l, hl⟩ := (step_moves h).keepsFixedParts
  exact ⟨hcfg, hhooks, hfs, hgs, l, hl.symm⟩

/-! ### The size of RAM (R9) -/

/-- Above 1 MiB half of the size is below the request, so no smaller power of two would do. -/
theorem ramSizeOf_of_gt {request : Nat} (h : 2 ^ 20 < request) :
    ∃ j, 20 ≤ j ∧ ramSizeOf request = 2 ^ (j + 1) ∧ 2 ^ j < request ∧ request ≤ 2 ^ (j + 1) := by
  have hbelow : 2 ^ Nat.log2 (request - 1) ≤ request - 1 := Nat.log2_self_le (by omega)
  have habove : request - 1 < 2 ^ (Nat.log2 (request - 1) + 1) := Nat.lt_log2_self
  exact ⟨Nat.log2 (request - 1), (Nat.le_log2 (by omega)).2 (by omega), if_neg (by omega), by omega, by omega⟩

/-- Settles O22: up to 1 MiB the exponent is 20, above it the logarithm of request - 1 plus 1. -/
theorem ramSizeIsLeastPowerOfTwo : Obligations.RamSizeIsLeastPowerOfTwo := by
  intro request
  by_cases h : request ≤ 2 ^ 20
  · exact ⟨20, if_pos h, le_rfl, h, fun h20 => absurd h20 (lt_irrefl 20)⟩
  · obtain ⟨j, hj, hsize, hlo, hhi⟩ := ramSizeOf_of_gt (Nat.lt_of_not_le h)
    exact ⟨j + 1, hsize, by omega, hhi, fun _ => hlo⟩

end Sys2Proof.Machine
end

section
/-! PROOFS of the statements of 10_state.md: the invariant of R50, who writes the opaque flag bits (R36) and CS (R29), the reset input
(R44, R45) and byte registers (R24). -/

open Sys2Proof.Claims

namespace Sys2Proof.Machine

/-! ### The opaque word of FLAGS (R32, R34) -/

/-- R50: no opaque bit stands where a condition flag is. -/
def Flags.Disjoint (f : Flags) : Prop := f.other &&& 0x08D5#16 = 0#16

theorem Flags.disjoint_unpack (v : Word) : (Flags.unpack v).Disjoint := Flags.unpack_other v

theorem Flags.Disjoint.congr {f g : Flags} (h : f.Disjoint) (e : g.other = f.other) : g.Disjoint := by
  unfold Flags.Disjoint
  rw [e]
  exact h

/-- Clearing opaque bits, as CLI, CLD and interrupt entry do, keeps the word disjoint. -/
theorem Flags.Disjoint.and {f g : Flags} (h : f.Disjoint) {m : Word} (e : g.other = f.other &&& m) : g.Disjoint := by
  unfold Flags.Disjoint at h ⊢
  rw [e, BitVec.and_assoc, BitVec.and_comm m, ← BitVec.and_assoc, h, BitVec.zero_and]

/-- Setting opaque bits, as STI and STD do, keeps the word disjoint when none of them is a condition flag's. -/
theorem Flags.Disjoint.or {f g : Flags} (h : f.Disjoint) {m : Word} (hm : m &&& 0x08D5#16 = 0#16) (e : g.other = f.other ||| m) :
    g.Disjoint := by
  unfold Flags.Disjoint at h ⊢
  rw [e, BitVec.and_or_distrib_right, h, hm, BitVec.or_zero]

/-! No arithmetic flag rule writes the opaque word (R36). -/

theorem logicWith_other {w : Nat} (x : BitVec w) (f : Flags) : (logicWith x f).2.other = f.other := by rfl

theorem subWith_other {w : Nat} (l r : BitVec w) (b : Bool) (f : Flags) : (subWith l r b f).2.other = f.other := by rfl

theorem incWith_other {w : Nat} (x : BitVec w) (f : Flags) : (incWith x f).2.other = f.other := by rfl

theorem decWith_other {w : Nat} (x : BitVec w) (f : Flags) : (decWith x f).2.other = f.other := by rfl

theorem alu_other {w : Nat} (op : AluOp) (l r : BitVec w) (f : Flags) : (alu op l r f).2.other = f.other := by
  cases op <;> rfl

theorem shiftFlags_other {w : Nat} (op : ShiftOp) (n : Nat) (x : BitVec w) (cf : Bool) (f : Flags) (d0 d1 : Bool) :
    (shiftFlags op n x cf f d0 d1).other = f.other := by
  cases op <;> rfl

/-! ### What an instruction may write of FLAGS and CS -/

/-- What `t` keeps of `s` when the opaque flag bits may be written only if `mayFlags` is true, and CS only if `mayCs` is: the three
rules R36, R50 and R29 in one, so that the instructions are gone through once (`exec_keeps`). `Moves` does not say it: its moves
write any flags and any segment register. -/
structure Keeps (mayFlags mayCs : Bool) (s t : State) : Prop where
  other : mayFlags = false → t.flags.other = s.flags.other
  disjoint : s.flags.Disjoint → t.flags.Disjoint
  cs : mayCs = false → t.seg.cs = s.seg.cs

namespace Keeps

variable {mayFlags mayCs : Bool} {s t u : State}

theorem refl : Keeps mayFlags mayCs s s := ⟨fun _ => rfl, id, fun _ => rfl⟩

theorem trans (h : Keeps mayFlags mayCs s t) (h' : Keeps mayFlags mayCs t u) : Keeps mayFlags mayCs s u where
  other hf := (h'.other hf).trans (h.other hf)
  disjoint hs := h'.disjoint (h.disjoint hs)
  cs hc := (h'.cs hc).trans (h.cs hc)

/-- An operation that writes neither. -/
theorem frame (h : Keeps mayFlags mayCs s t) (hother : u.flags.other = t.flags.other) (hcs : u.seg.cs = t.seg.cs) :
    Keeps mayFlags mayCs s u :=
  h.trans ⟨fun _ => hother, fun ht => ht.congr hother, fun _ => hcs⟩

/-- An operation that may write CS. -/
theorem frameCs (h : Keeps mayFlags true s t) (hother : u.flags.other = t.flags.other) : Keeps mayFlags true s u :=
  h.trans ⟨fun _ => hother, fun ht => ht.congr hother, nofun⟩

/-- An operation that may write opaque flag bits. -/
theorem frameFlags (h : Keeps true mayCs s t) (hflags : t.flags.Disjoint → u.flags.Disjoint) (hcs : u.seg.cs = t.seg.cs) :
    Keeps true mayCs s u :=
  h.trans ⟨nofun, hflags, fun _ => hcs⟩

/-! ### The shared operations -/

theorem setReg16 (h : Keeps mayFlags mayCs s t) (r : Reg16) (v : Word) : Keeps mayFlags mayCs s (t.setReg16 r v) := h.frame rfl rfl

theorem setIp (h : Keeps mayFlags mayCs s t) (v : Word) : Keeps mayFlags mayCs s (t.setIp v) := h.frame rfl rfl

theorem setFlags (h : Keeps mayFlags mayCs s t) {f : Flags} (hf : f.other = t.flags.other) :
    Keeps mayFlags mayCs s (t.setFlags f) := h.frame hf rfl

theorem tookDraws (h : Keeps mayFlags mayCs s t) (n : Nat) : Keeps mayFlags mayCs s (t.tookDraws n) := h.frame rfl rfl

theorem writeByte (h : Keeps mayFlags mayCs s t) (a : Nat) (v : Byte) : Keeps mayFlags mayCs s (t.writeByte a v) := by
  obtain ⟨l, e⟩ := t.writeByte_eq a v
  rw [e]
  exact h.frame rfl rfl

theorem write8 (h : Keeps mayFlags mayCs s t) (seg off : Word) (v : Byte) : Keeps mayFlags mayCs s (t.write8 seg off v) :=
  h.writeByte _ _

theorem write16 (h : Keeps mayFlags mayCs s t) (seg off v : Word) : Keeps mayFlags mayCs s (t.write16 seg off v) :=
  (h.writeByte _ _).writeByte _ _

theorem writeE8 (h : Keeps mayFlags mayCs s t) (o : Operand Reg8) (v : Byte) : Keeps mayFlags mayCs s (t.writeE8 o v) := by
  obtain ⟨g, m, l, e⟩ := t.writeE8_eq o v
  rw [e]
  exact h.frame rfl rfl

theorem writeE16 (h : Keeps mayFlags mayCs s t) (o : Operand Reg16) (v : Word) : Keeps mayFlags mayCs s (t.writeE16 o v) := by
  obtain ⟨g, m, l, e⟩ := t.writeE16_eq o v
  rw [e]
  exact h.frame rfl rfl

theorem push16 (h : Keeps mayFlags mayCs s t) (v : Word) : Keeps mayFlags mayCs s (t.push16 v) :=
  (h.setReg16 _ _).write16 _ _ _

theorem goFar (h : Keeps mayFlags true s t) (off seg : Word) : Keeps mayFlags true s (goFar off seg t) := h.frameCs rfl

theorem interrupt (h : Keeps true true s t) (n : Byte) : Keeps true true s (t.interrupt n) where
  other := nofun
  disjoint hs := by
    rw [State.interrupt_flags]
    exact (h.disjoint hs).and rfl
  cs := nofun

theorem interruptReturn (h : Keeps true true s t) : Keeps true true s t.interruptReturn :=
  (h.frameCs (u := t.setSreg .cs t.dropTop.top16) rfl).frameFlags (fun _ => Flags.disjoint_unpack _) rfl

theorem aluTo8 (h : Keeps mayFlags mayCs s t) (op : AluOp) (dst : Operand Reg8) (r : Byte) :
    Keeps mayFlags mayCs s (aluTo8 op dst r t) := by
  unfold Machine.aluTo8
  split
  · exact h.setFlags (alu_other ..)
  · exact (h.setFlags (alu_other ..)).writeE8 _ _

theorem aluTo16 (h : Keeps mayFlags mayCs s t) (op : AluOp) (dst : Operand Reg16) (r : Word) :
    Keeps mayFlags mayCs s (aluTo16 op dst r t) := by
  unfold Machine.aluTo16
  split
  · exact h.setFlags (alu_other ..)
  · exact (h.setFlags (alu_other ..)).writeE16 _ _

theorem shiftTo8 (h : Keeps mayFlags mayCs s t) (op : ShiftOp) (n : Nat) (dst : Operand Reg8) :
    Keeps mayFlags mayCs s (shiftTo8 op n dst t) := by
  unfold Machine.shiftTo8
  split
  · exact h
  · exact ((h.setFlags (shiftFlags_other ..)).tookDraws _).writeE8 _ _

theorem shiftTo16 (h : Keeps mayFlags mayCs s t) (op : ShiftOp) (n : Nat) (dst : Operand Reg16) :
    Keeps mayFlags mayCs s (shiftTo16 op n dst t) := by
  unfold Machine.shiftTo16
  split
  · exact h
  · exact ((h.setFlags (shiftFlags_other ..)).tookDraws _).writeE16 _ _

/-- R279: a division that faults enters the interrupt. -/
theorem divideInto8 (h : Keeps true true s t) (r : Option (Byte × Byte)) : Keeps true true s (divideInto8 r t) := by
  cases r with
  | none => exact h.interrupt 0
  | some q => exact h.frame rfl rfl

theorem divideInto16 (h : Keeps true true s t) (r : Option (Word × Word)) : Keeps true true s (divideInto16 r t) := by
  cases r with
  | none => exact h.interrupt 0
  | some q => exact h.frame rfl rfl

theorem pushSp (h : Keeps mayFlags mayCs s t) : Keeps mayFlags mayCs s (pushSp t) := by
  unfold Machine.pushSp
  split
  · exact h.push16 _
  · exact h.push16 _

theorem pushOperand (h : Keeps mayFlags mayCs s t) (e : Rm Reg16) : Keeps mayFlags mayCs s (pushOperand e t) := by
  unfold Machine.pushOperand
  split
  · exact h.pushSp
  · exact h.push16 _
  · exact h.push16 _

theorem jumpIf (h : Keeps mayFlags mayCs s t) (taken : Bool) (d : Byte) : Keeps mayFlags mayCs s (jumpIf taken d t) := by
  unfold Machine.jumpIf
  split
  · exact h.setIp _
  · exact h

theorem loopIf (h : Keeps mayFlags mayCs s t) (also : Bool) (d : Byte) : Keeps mayFlags mayCs s (loopIf also d t) :=
  (h.setReg16 _ _).jumpIf _ _

theorem repeatLoop {iter : Word → State → State} (hiter : ∀ src u, Keeps mayFlags mayCs u (iter src u)) (compares : Bool)
    (mode : RepMode) (later : Word) (n : Nat) (seg : Word) (h : Keeps mayFlags mayCs s t) :
    Keeps mayFlags mayCs s (repeatLoop compares mode iter later n seg t) := by
  induction n generalizing seg t with
  | zero => exact h
  | succ n ih =>
    have hone := (h.trans (hiter seg t)).setReg16 .cx ((iter seg t).reg16 .cx - 1)
    simp only [Machine.repeatLoop]
    split
    · exact hone
    · exact ih later hone

/-- A string instruction keeps what its one iteration keeps (R372). -/
theorem repeatString {iter : Word → State → State} (hiter : ∀ src u, Keeps mayFlags mayCs u (iter src u)) (compares : Bool)
    (s : State) : Keeps mayFlags mayCs s (repeatString compares iter s) := by
  unfold Machine.repeatString
  split
  · exact hiter _ s
  · exact repeatLoop hiter _ _ _ _ _ .refl

end Keeps

theorem keeps_of_next {mayFlags mayCs : Bool} {s t u : State} (h : (.next u : Result) = .next t) (hu : Keeps mayFlags mayCs s u) :
    Keeps mayFlags mayCs s t := by
  cases h
  exact hu

/-- R116: a tier 2 instruction that completes has its ordinary effect. -/
theorem keeps_of_tier2 {mayFlags mayCs : Bool} {s t u : State} {op : Byte} (h : s.tier2 op u = .next t)
    (hu : Keeps mayFlags mayCs s u) : Keeps mayFlags mayCs s t := by
  unfold State.tier2 at h
  split at h
  · cases h
  · exact keeps_of_next h hu

/-- R29, R36: an instruction writes opaque flag bits and CS only as the two lists say, and no opaque bit where a condition flag is. -/
theorem exec_keeps {i : Instr} {s t : State} (h : exec i s = .next t) : Keeps (writesOpaque i) (writesCs i) s t := by
  have start {mayFlags mayCs : Bool} : Keeps mayFlags mayCs s s := .refl
  cases i with
  -- the eight binary ALU operations (R175 to R189)
  | addEbGb | orEbGb | adcEbGb | sbbEbGb | andEbGb | subEbGb | xorEbGb | cmpEbGb
  | addGbEb | orGbEb | adcGbEb | sbbGbEb | andGbEb | subGbEb | xorGbEb | cmpGbEb
  | addAlIb | orAlIb | adcAlIb | sbbAlIb | andAlIb | subAlIb | xorAlIb | cmpAlIb
  | addEbIb | orEbIb | adcEbIb | sbbEbIb | andEbIb | subEbIb | xorEbIb | cmpEbIb
  | addEbIb82 | orEbIb82 | adcEbIb82 | sbbEbIb82 | andEbIb82 | subEbIb82 | xorEbIb82 | cmpEbIb82 =>
    exact keeps_of_next h (start.aluTo8 _ _ _)
  | addEvGv | orEvGv | adcEvGv | sbbEvGv | andEvGv | subEvGv | xorEvGv | cmpEvGv
  | addGvEv | orGvEv | adcGvEv | sbbGvEv | andGvEv | subGvEv | xorGvEv | cmpGvEv
  | addAxIv | orAxIv | adcAxIv | sbbAxIv | andAxIv | subAxIv | xorAxIv | cmpAxIv
  | addEvIv | orEvIv | adcEvIv | sbbEvIv | andEvIv | subEvIv | xorEvIv | cmpEvIv
  | addEvIbs | orEvIbs | adcEvIbs | sbbEvIbs | andEvIbs | subEvIbs | xorEvIbs | cmpEvIbs =>
    exact keeps_of_next h (start.aluTo16 _ _ _)
  -- TEST, INC, DEC, NEG, NOT (R190 to R197)
  | testEbGb | testEvGv | testAlIb | testAxIv | testEbIb | testEvIv => exact keeps_of_tier2 h (start.setFlags (logicWith_other ..))
  | incEb => exact keeps_of_tier2 h ((start.setFlags (incWith_other ..)).writeE8 _ _)
  | incEv => exact keeps_of_tier2 h ((start.setFlags (incWith_other ..)).writeE16 _ _)
  | incR16 r => exact keeps_of_tier2 h ((start.setFlags (incWith_other ..)).writeE16 (.register r) _)
  | decEb => exact keeps_of_tier2 h ((start.setFlags (decWith_other ..)).writeE8 _ _)
  | decEv => exact keeps_of_tier2 h ((start.setFlags (decWith_other ..)).writeE16 _ _)
  | decR16 r => exact keeps_of_tier2 h ((start.setFlags (decWith_other ..)).writeE16 (.register r) _)
  | negEb => exact keeps_of_tier2 h ((start.setFlags (subWith_other ..)).writeE8 _ _)
  | negEv => exact keeps_of_tier2 h ((start.setFlags (subWith_other ..)).writeE16 _ _)
  | notEb => exact keeps_of_tier2 h (start.writeE8 _ _)
  | notEv => exact keeps_of_tier2 h (start.writeE16 _ _)
  -- shifts and rotates (R243 to R252)
  | rolEb1 | rolEbCl | rorEb1 | rorEbCl | rclEb1 | rclEbCl | rcrEb1 | rcrEbCl
  | shlEb1 | shlEbCl | shrEb1 | shrEbCl | sarEb1 | sarEbCl => exact keeps_of_next h (start.shiftTo8 _ _ _)
  | rolEv1 | rolEvCl | rorEv1 | rorEvCl | rclEv1 | rclEvCl | rcrEv1 | rcrEvCl
  | shlEv1 | shlEvCl | shrEv1 | shrEvCl | sarEv1 | sarEvCl => exact keeps_of_next h (start.shiftTo16 _ _ _)
  -- registers, IP, ports, draws, condition flags and the decode context alone
  | daa | das | aaa | aas | mulEb | mulEv | imulEb | imulEv
  | movGbEb | movAlOb | movR8Ib | movGvEv | movAxOv | movR16Iv | leaGvM
  | inAlIb | inAlDx | inAxIb | inAxDx | outIbAl | outIbAx | outDxAl | outDxAx
  | popR16 | popEs | popSs | popDs | jmpShort | jmpNear | jmpEv | retNear | retNearIw
  | clc | stc | cmc | sahf | lahf | hlt
  | prefixEs | prefixCs | prefixSs | prefixDs | lockF0 | lockF1 | repnz | repz => exact keeps_of_next h (start.frame rfl rfl)
  | aad | xchgAxCx | xchgAxDx | xchgAxBx | xchgAxSp | xchgAxBp | xchgAxSi | xchgAxDi | lesGvMp | ldsGvMp | xlat | cbw | cwd | nop =>
    exact keeps_of_tier2 h (start.frame rfl rfl)
  -- stores and pushes (R300 to R312, R340 to R351)
  | movEbGb | movEbIb => exact keeps_of_next h (start.writeE8 _ _)
  | movEvGv | movEvIv | movEwSw => exact keeps_of_next h (start.writeE16 _ _)
  | movObAl => exact keeps_of_next h (start.write8 _ _ _)
  | movOvAx => exact keeps_of_next h (start.write16 _ _ _)
  | xchgEbGb => exact keeps_of_tier2 h ((start.writeE8 _ _).setReg16 _ _)
  | xchgEvGv => exact keeps_of_tier2 h ((start.writeE16 _ _).setReg16 _ _)
  | pushAx | pushCx | pushDx | pushBx | pushBp | pushSi | pushDi | pushEs | pushCs | pushSs | pushDs | pushf =>
    exact keeps_of_next h (start.push16 _)
  | pushSp => exact keeps_of_next h start.pushSp
  | pushEv => exact keeps_of_tier2 h (start.pushOperand _)
  | popEv => exact keeps_of_tier2 h ((start.setReg16 _ _).writeE16 _ _)
  -- string instructions (R371 to R383)
  | movsb => exact keeps_of_next h (.repeatString (fun _ _ => ((Keeps.refl.write8 _ _ _).setReg16 _ _).setReg16 _ _) _ s)
  | movsw => exact keeps_of_next h (.repeatString (fun _ _ => ((Keeps.refl.write16 _ _ _).setReg16 _ _).setReg16 _ _) _ s)
  | stosb => exact keeps_of_next h (.repeatString (fun _ _ => (Keeps.refl.write8 _ _ _).setReg16 _ _) _ s)
  | stosw => exact keeps_of_next h (.repeatString (fun _ _ => (Keeps.refl.write16 _ _ _).setReg16 _ _) _ s)
  | lodsb | lodsw => exact keeps_of_next h (.repeatString (fun _ _ => (Keeps.refl.setReg16 _ _).setReg16 _ _) _ s)
  | cmpsb | cmpsw =>
    exact keeps_of_next h (.repeatString (fun _ _ => ((Keeps.refl.setFlags (alu_other ..)).setReg16 _ _).setReg16 _ _) _ s)
  | scasb | scasw => exact keeps_of_next h (.repeatString (fun _ _ => (Keeps.refl.setFlags (alu_other ..)).setReg16 _ _) _ s)
  -- near control transfer (R402 to R428)
  | jo | jno | jb | jnb | je | jne | jbe | jnbe | js | jns | jp | jnp | jl | jnl | jle | jnle | jcxz =>
    exact keeps_of_next h (start.jumpIf _ _)
  | loopne | loope | loop => exact keeps_of_next h (start.loopIf _ _)
  | callNear | callEv => exact keeps_of_next h ((start.push16 _).setIp _)
  -- far control transfer and MOV Sw write CS (R29)
  | jmpFar | jmpMp => exact keeps_of_next h (start.goFar _ _)
  | callFar | callMp => exact keeps_of_next h (((start.push16 _).push16 _).goFar _ _)
  | retFar | retFarIw => exact keeps_of_next h (start.frameCs rfl)
  | movSwEw sr =>
    cases sr with
    | cs => exact keeps_of_next h (start.frameCs rfl)
    | es | ss | ds => exact keeps_of_next h (start.frame rfl rfl)
  -- the single-flag instructions and POPF write opaque bits (R36)
  | cli | cld => exact keeps_of_next h (start.frameFlags (fun hs => hs.and rfl) rfl)
  | sti | std => exact keeps_of_next h (start.frameFlags (fun hs => hs.or rfl rfl) rfl)
  | popf => exact keeps_of_next h (start.frameFlags (fun _ => Flags.disjoint_unpack _) rfl)
  -- interrupt entry and return write both (R506, R474)
  | intIb | int3 => exact keeps_of_next h (start.interrupt _)
  | into =>
    refine keeps_of_next h ?_
    split
    · exact start.interrupt 4
    · exact start
  | aam imm =>
    refine keeps_of_tier2 h ?_
    split
    · exact start.interrupt 0
    · exact start.frame rfl rfl
  | divEb | idivEb => exact keeps_of_next h (start.divideInto8 _)
  | divEv | idivEv => exact keeps_of_next h (start.divideInto16 _)
  | iret => exact keeps_of_next h start.interruptReturn
  -- the two fatal decode errors (R501, R502) have no next state
  | unimplementedOpcode => cases h
  | invalidOperandEncoding =>
    simp only [exec, execInvalidOperandEncoding] at h
    split at h <;> cases h

/-- Settles O16: outside the list of R36 an instruction is one of those that keep the opaque word. -/
theorem opaqueFlagBitsAreWrittenOnlyByTheirInstructions : Obligations.OpaqueFlagBitsAreWrittenOnlyByTheirInstructions :=
  fun _ _ _ h hi => (exec_keeps h).other hi

/-- Settles O17: outside the list of R29 an instruction is one of those that keep CS. -/
theorem codeSegmentIsWrittenOnlyByFarTransfers : Obligations.CodeSegmentIsWrittenOnlyByFarTransfers :=
  fun _ _ _ h hi => (exec_keeps h).cs hi

/-! ### The invariant (R50) -/

/-- Every move keeps RAM in its canonical form. -/
theorem Moves.memWf {s t : State} (h : Moves s t) (hs : Memory.wf s.mem) : Memory.wf t.mem := by
  induction h with
  | refl => exact hs
  | writeByte _ a v ih =>
    rw [State.writeByte_mem]
    exact Memory.set_wf ih _ v
  | setReg16 _ _ _ ih | setSreg _ _ _ ih | setIp _ _ ih | setFlags _ _ ih | setCtx _ _ ih | setHalt _ _ ih | tookDraws _ _ ih
  | afterPortRead _ _ _ ih | portWrite _ _ _ _ ih => exact ih

/-- Every move keeps the addresses of RAM inside the array: a store reduces its address first (R65). -/
theorem Moves.memInside {s t : State} (h : Moves s t) (hs : ∀ c ∈ s.mem, c.1 < s.ramSize) : ∀ c ∈ t.mem, c.1 < t.ramSize := by
  induction h with
  | refl => exact hs
  | @writeByte u _ a v ih =>
    intro c hc
    rw [State.writeByte_mem] at hc
    rw [State.writeByte_ramSize]
    rcases Memory.mem_set hc with hsame | hold
    · rw [hsame]
      exact Nat.mod_lt a u.ramSize_pos
    · exact ih c hold
  | setReg16 _ _ _ ih | setSreg _ _ _ ih | setIp _ _ ih | setFlags _ _ ih | setCtx _ _ ih | setHalt _ _ ih | tookDraws _ _ ih
  | afterPortRead _ _ _ ih | portWrite _ _ _ _ ih => exact ih

/-- R102: a fetch reads; it writes no flag. -/
theorem fetchDecode_flags {s : State} {p : Instr × State} (h : s.fetchDecode = some p) : p.2.flags = s.flags := by
  unfold State.fetchDecode at h
  split at h
  · cases h
    rfl
  · cases h

/-- What fetching and every instruction keep holds of the state before the decode context is cleared for the last time (R48, R104). -/
theorem prefixLoop_keeps {P : State → Prop} (hfetch : ∀ {u p}, u.fetchDecode = some p → P u → P p.2)
    (hexec : ∀ {i u v}, exec i u = .next v → P u → P v) {n : Nat} {s t : State} (h : s.prefixLoop n = .next t) (hs : P s) :
    ∃ u, P u ∧ u.setCtx DecodeCtx.clear = t := by
  induction n generalizing s with
  | zero => cases h
  | succ n ih =>
    unfold State.prefixLoop at h
    split at h
    · cases h
    next p hp =>
      split at h
      · split at h
        next s' hs' => exact ih h (hexec hs' (hfetch hp hs))
        · cases h
        · cases h
      · obtain ⟨u, hu, hctx⟩ := endStep_next h
        exact ⟨u, hexec hu (hfetch hp hs), hctx⟩

/-- A step keeps the opaque word disjoint and ends with the decode context clear (R48, R50). -/
theorem step_disjoint_and_ctx {s t : State} (h : step s = .next t) (hs : s.flags.Disjoint) :
    t.flags.Disjoint ∧ t.ctx = DecodeCtx.clear := by
  obtain ⟨u, hu, rfl⟩ := prefixLoop_keeps (P := fun u => u.flags.Disjoint)
    (fun hp hd => by rw [fetchDecode_flags hp]; exact hd) (fun he => (exec_keeps he).disjoint) h hs
  exact ⟨hu, rfl⟩

/-- Settles O13: RAM by the moves a step is made of, the opaque word by the instructions, the decode context by the step's end. -/
theorem stepKeepsInvariant : Obligations.StepKeepsInvariant := by
  intro s t hs h
  obtain ⟨hbits, hctx⟩ := step_disjoint_and_ctx h hs.otherBits
  exact ⟨(step_moves h).memWf hs.memWf, (step_moves h).memInside hs.memInside, hbits, hctx⟩

/-! ### Reset (R44, R45, R550) -/

/-- A bit of a mask that clears the word to 0 is clear in the word. -/
theorem getLsbD_of_and_eq_zero {v m : Word} (h : v &&& m = 0#16) {k : Nat} (hk : m.getLsbD k = true) : v.getLsbD k = false := by
  have hbit := congrArg (fun x => x.getLsbD k) h
  simpa [hk] using hbit

/-- Settles O20: the nine bits are those of the mask of R7, and a packed write is read back exactly (R35). -/
theorem resetClearsNamedFlags : Obligations.ResetClearsNamedFlags := by
  intro s hwf
  have bit {k : Nat} (hk : (0x0FD5#16).getLsbD k = true) : s.cfg.flagsReset.getLsbD k = false := getLsbD_of_and_eq_zero hwf hk
  have otherBit {k : Nat} (hk : (0x0FD5#16).getLsbD k = true) : (Flags.unpack s.cfg.flagsReset).other.getLsbD k = false := by
    simp only [Flags.unpack, BitVec.getLsbD_and, bit hk, Bool.false_and]
  rw [State.resetInput_eq]
  exact ⟨bit rfl, bit rfl, bit rfl, bit rfl, bit rfl, bit rfl, otherBit rfl, otherBit rfl, otherBit rfl, Flags.pack_unpack _⟩

/-- Settles O14: no byte of RAM is listed, and 0x0002 holds no condition flag's bit. -/
theorem resetStateHasInvariant : Obligations.ResetStateHasInvariant where
  memWf := ⟨.nil, fun _ hc => nomatch hc⟩
  memInside _ hc := nomatch hc
  otherBits := rfl
  ctxClear := rfl

/-- Settles O19: everything the reset input does, and the translation of the reset vector. -/
theorem resetInputWritesOnlyItsRegisters : Obligations.ResetInputWritesOnlyItsRegisters :=
  fun s => ⟨s.resetInput_eq, show Machine.translate 0xF000 (0xFFF0#16 + BitVec.ofNat 16 0).toNat = 0xFFFF0 by decide⟩

/-! ### Byte registers (R24) -/

theorem get_put8_of_ne (g : Gpr) {r : Reg8} (v : Byte) {q : Reg16} (h : q ≠ byteParent r) : (put8 g r v).get q = g.get q := by
  unfold put8
  split
  · exact Gpr.get_set_of_ne g _ h
  · exact Gpr.get_set_of_ne g _ h

/-- Settles O21: the halves put together are the masks of R24, and they write the parent register alone. -/
theorem byteRegisterWrite : Obligations.ByteRegisterWrite := by
  intro s r v
  refine ⟨?_, fun q => get_put8_of_ne s.gpr v⟩
  rw [← setReg8_gpr]
  rfl

end Sys2Proof.Machine
end

section
/-! PROOFS of the statements of 20_memory.md: the translation of R62, the word read of R70 and the word writes of R67 and R71. -/

namespace Sys2Proof.Machine

/-! ### The spec's notation for addresses and halves -/

/-- R62: 16 times the segment is a shift by 4, and the 20-bit wrap is a mask. -/
theorem translate_eq_shift_and_mask (seg : Word) (off : Nat) :
    translate seg off = ((seg.toNat <<< 4) + off % 0x10000) &&& 0xFFFFF := by
  have mask (n : Nat) : n &&& 0xFFFFF = n % 0x100000 := Nat.and_two_pow_sub_one_eq_mod n 20
  rw [mask, Nat.shiftLeft_eq]
  rfl

/-- R70: the address of the high byte as the rule's three clauses. -/
theorem highByteAddr_eq (arch : Arch) (seg off : Word) :
    highByteAddr arch seg off = if off.toNat ≠ 0xFFFF then translate seg (off.toNat + 1)
      else if arch = .a8086 then translate seg 0 else translate seg 0xFFFF + 1 := by
  unfold highByteAddr
  by_cases h : off = 0xFFFF#16
  · subst h
    cases arch <;> rfl
  · have hn : off.toNat ≠ 0xFFFF := fun e => h (BitVec.eq_of_toNat_eq e)
    rw [if_neg h, if_pos hn]

theorem loByte_eq_ofNat (v : Word) : loByte v = BitVec.ofNat 8 v.toNat := by
  apply BitVec.eq_of_toNat_eq
  rw [loByte_toNat, BitVec.toNat_ofNat]

theorem hiByte_eq_ofNat (v : Word) : hiByte v = BitVec.ofNat 8 (v.toNat / 256) := by
  rw [← hiByte_toNat, BitVec.ofNat_toNat, BitVec.setWidth_eq]

/-! ### Word writes keep the flags -/

@[simp] theorem State.writeWordPhys_flags (s : State) (a : Nat) (v : Word) : (s.writeWordPhys a v).flags = s.flags := by
  obtain ⟨l, h⟩ := s.writeWordPhys_eq a v
  rw [h]

@[simp] theorem State.write16_flags (s : State) (seg off v : Word) : (s.write16 seg off v).flags = s.flags := by
  obtain ⟨l, h⟩ := s.write16_eq seg off v
  rw [h]

/-! ### The statements -/

/-- Settles O23: a word read is its two bytes, the high one at the address of R70's clauses. -/
theorem translationAndWordRead : Obligations.TranslationAndWordRead := by
  refine ⟨translate_eq_shift_and_mask, fun s seg off => ?_⟩
  rw [← highByteAddr_eq, State.read16, wordOf_toNat]
  omega

/-- Settles O24: from no change at all, a word write adds its two byte stores (R65), the low byte first. -/
theorem wordWriteStoresAndEvents : Obligations.WordWriteStoresAndEvents := by
  constructor
  · intro s a v
    rw [← loByte_eq_ofNat, ← hiByte_eq_ofNat]
    exact ⟨(changed_keep s).writeWordPhys rfl a v, s.writeWordPhys_flags a v⟩
  · intro s seg off v
    rw [← highByteAddr_eq, ← loByte_eq_ofNat, ← hiByte_eq_ofNat]
    exact ⟨(changed_keep s).write16 rfl seg off v, s.write16_flags seg off v⟩

end Sys2Proof.Machine
end

section
/-! PROOFS of the statements of 30_encoding.md about the decoder and the encoder: what each reader takes, the opcode map against the
encoder, and from these that `decode` and `encode` are inverse to each other on well-formed instructions. -/

open Sys2Proof.Laws

namespace Sys2Proof

/-! ### Readers: what was read, written again, is what was taken (R102, R103, R111, R112) -/

@[simp] theorem Parsed.andThen_ok {α β : Type} (a : α) (bs : List Byte) (k : α → List Byte → Parsed β) :
    Parsed.andThen (.ok (a, bs)) k = k a bs := rfl

@[simp] theorem Parsed.wrap_ok {α β : Type} (a : α) (bs : List Byte) (k : α → β) :
    Parsed.wrap (.ok (a, bs)) k = .ok (k a, bs) := rfl

theorem Parsed.andThen_eq_ok {α β : Type} {p : Parsed α} {k : α → List Byte → Parsed β} {x : β × List Byte} :
    p.andThen k = .ok x ↔ ∃ a bs, p = .ok (a, bs) ∧ k a bs = .ok x := by
  cases p with
  | ok y =>
    obtain ⟨a, bs⟩ := y
    simp
  | error e => simp [Parsed.andThen]

theorem Parsed.wrap_eq_ok {α β : Type} {p : Parsed α} {k : α → β} {b : β} {rest : List Byte} :
    p.wrap k = .ok (b, rest) ↔ ∃ a, p = .ok (a, rest) ∧ k a = b := by
  unfold Parsed.wrap
  rw [Parsed.andThen_eq_ok]
  constructor
  · rintro ⟨a, bs, hp, hk⟩
    cases hk
    exact ⟨a, hp, rfl⟩
  · rintro ⟨a, hp, rfl⟩
    exact ⟨a, rest, hp, rfl⟩

theorem takeByte_eq_ok {bs rest : List Byte} {b : Byte} : takeByte bs = .ok (b, rest) ↔ b :: rest = bs := by
  cases bs with
  | nil => simp [takeByte]
  | cons c bs => simp [takeByte, eq_comm]

theorem wordBytes_append (hi lo : Byte) : wordBytes (hi ++ lo) = [lo, hi] :=
  congrArg₂ (fun a b => [a, b]) (Machine.loByte_wordOf hi lo) (Machine.hiByte_wordOf hi lo)

theorem takeWord_eq_ok {bs rest : List Byte} {v : Word} : takeWord bs = .ok (v, rest) ↔ wordBytes v ++ rest = bs := by
  refine ⟨fun h => ?_, fun h => h ▸ takeWord_wordBytes v rest⟩
  match bs, h with
  | lo :: hi :: bs, h =>
    obtain ⟨rfl, rfl⟩ := Prod.mk.inj (Except.ok.inj h)
    rw [wordBytes_append]
    rfl

theorem Base.bits_ofBits (b : BitVec 3) : (Base.ofBits b).bits = b := by revert b; decide

theorem Reg8.bits_ofBits (b : BitVec 3) : (Reg8.ofBits b).bits = b := by revert b; decide

theorem Reg16.bits_ofBits (b : BitVec 3) : (Reg16.ofBits b).bits = b := by revert b; decide

theorem SReg.bits3_of_ofBits {b : BitVec 3} {r : SReg} (h : SReg.ofBits b = some r) : r.bits3 = b := by revert b r; decide

theorem modrmByte_fields (m : Byte) : modrmByte (modField m) (regField m) (rmField m) = m := by revert m; decide

/-- R143: rm = 6 is [BP], which has no form without displacement. -/
theorem wf_based_none {b : Base} : (MemRef.based b .none).wf = true ↔ b.bits ≠ 6#3 := by cases b <;> decide

@[simp] theorem wf_based_d8 (b : Base) (d : Byte) : (MemRef.based b (.d8 d)).wf = true := by cases b <;> rfl

@[simp] theorem wf_based_d16 (b : Base) (d : Word) : (MemRef.based b (.d16 d)).wf = true := by cases b <;> rfl

/-- What `takeMem` reads is well formed, and written with any reg field it is the bytes that were taken. -/
theorem encMem_of_takeMem {mod : BitVec 2} {rm : BitVec 3} {bs rest : List Byte} {x : MemRef} (hmod : mod ≠ 3#2)
    (h : takeMem mod rm bs = .ok (x, rest)) (reg : BitVec 3) : x.wf = true ∧ encMem x reg ++ rest = modrmByte mod reg rm :: bs := by
  unfold takeMem at h
  split at h
  next h0 =>
    subst h0
    split at h
    next h6 =>
      obtain ⟨d, hd, rfl⟩ := Parsed.wrap_eq_ok.mp h
      rw [takeWord_eq_ok] at hd
      exact ⟨rfl, by simp [encMem, h6, hd]⟩
    next h6 =>
      obtain ⟨rfl, rfl⟩ := Prod.mk.inj (Except.ok.inj h)
      exact ⟨wf_based_none.mpr (by rwa [Base.bits_ofBits]), by simp [encMem, Base.bits_ofBits]⟩
  next h0 =>
    split at h
    next h1 =>
      subst h1
      obtain ⟨d, hd, rfl⟩ := Parsed.wrap_eq_ok.mp h
      rw [takeByte_eq_ok] at hd
      exact ⟨wf_based_d8 _ d, by simp [encMem, Base.bits_ofBits, hd]⟩
    next h1 =>
      obtain ⟨d, hd, rfl⟩ := Parsed.wrap_eq_ok.mp h
      rw [takeWord_eq_ok] at hd
      have h2 : mod = 2#2 := by revert mod; decide
      exact ⟨wf_based_d16 _ d, by simp [encMem, Base.bits_ofBits, hd, h2]⟩

/-- A written memory form is read back, its reg field with it. -/
theorem takeMem_of_encMem {x : MemRef} (hwf : x.wf = true) (reg : BitVec 3) (rest : List Byte) :
    ∃ m bs, encMem x reg ++ rest = m :: bs ∧ modField m ≠ 3#2 ∧ regField m = reg
      ∧ takeMem (modField m) (rmField m) bs = .ok (x, rest) := by
  match x, hwf with
  | .direct d, _ => exact ⟨_, _, rfl, by simp, by simp, by simp [takeMem, takeWord_wordBytes]⟩
  | .based b .none, hwf => exact ⟨_, _, rfl, by simp, by simp, by simp [takeMem, wf_based_none.mp hwf]⟩
  | .based b (.d8 d), _ => exact ⟨_, _, rfl, by simp, by simp, by simp [takeMem, takeByte]⟩
  | .based b (.d16 d), _ => exact ⟨_, _, rfl, by simp, by simp, by simp [takeMem, takeWord_wordBytes]⟩

/-- The same for an `E` operand. -/
theorem encRm_of_takeRm {ρ : Type} {bits : ρ → BitVec 3} {ofBits : BitVec 3 → ρ} (hbits : ∀ b, bits (ofBits b) = b) {m : Byte}
    {bs rest : List Byte} {e : Rm ρ} (h : takeRm ofBits m bs = .ok (e, rest)) :
    e.wf = true ∧ encRm bits e (regField m) ++ rest = m :: bs := by
  unfold takeRm at h
  split at h
  next h3 =>
    obtain ⟨rfl, rfl⟩ := Prod.mk.inj (Except.ok.inj h)
    have hm := modrmByte_fields m
    rw [h3] at hm
    exact ⟨rfl, by simp [encRm, hbits, hm]⟩
  next h3 =>
    obtain ⟨x, hx, rfl⟩ := Parsed.wrap_eq_ok.mp h
    have hmem := encMem_of_takeMem h3 hx (regField m)
    rwa [modrmByte_fields] at hmem

theorem takeRm_of_encRm {ρ : Type} {bits : ρ → BitVec 3} {ofBits : BitVec 3 → ρ} (hbits : ∀ r, ofBits (bits r) = r) {e : Rm ρ}
    (hwf : e.wf = true) (reg : BitVec 3) (rest : List Byte) :
    ∃ m bs, encRm bits e reg ++ rest = m :: bs ∧ regField m = reg ∧ takeRm ofBits m bs = .ok (e, rest) := by
  match e, hwf with
  | .reg r, _ => exact ⟨_, _, rfl, by simp, by simp [takeRm, hbits]⟩
  | .mem x, hwf =>
    obtain ⟨m, bs, hbytes, hmod, hreg, hread⟩ := takeMem_of_encMem hwf reg rest
    exact ⟨m, bs, hbytes, hreg, by simp [takeRm, hmod, hread]⟩

/-! ### The opcode map is the encoder's (R115, R119) -/

/-- Instruction `i` is written as `bytes`, and it is well formed exactly when `ok` is true. -/
@[simp] def Written (i : Instr) (bytes : List Byte) (ok : Bool) : Prop := encode i = bytes ∧ i.wf = ok

/-- Every instruction a group entry builds is written with its opcode byte, its reg field and the operands of its form. -/
def GroupForm.Encodes (op : Byte) (reg : BitVec 3) : GroupForm → Prop
  | .reserved => True
  | .eb k => ∀ e, Written (k e) (op :: encRm Reg8.bits e reg) e.wf
  | .ev k => ∀ e, Written (k e) (op :: encRm Reg16.bits e reg) e.wf
  | .ebib k => ∀ e imm, Written (k e imm) (op :: encRm Reg8.bits e reg ++ [imm]) e.wf
  | .eviv k => ∀ e imm, Written (k e imm) (op :: encRm Reg16.bits e reg ++ wordBytes imm) e.wf
  | .evib k => ∀ e imm, Written (k e imm) (op :: encRm Reg16.bits e reg ++ [imm]) e.wf
  | .m k => ∀ x, Written (k x) (op :: encMem x reg) x.wf

/-- The opcode bytes whose parser looks at mod or reg before it accepts a ModR/M byte: the groups, 8C, 8D, 8E, C4 and C5. -/
def fieldOpcodes : List Byte :=
  [0x80, 0x81, 0x82, 0x83, 0x8C, 0x8D, 0x8E, 0x8F, 0xC4, 0xC5, 0xC6, 0xC7, 0xD0, 0xD1, 0xD2, 0xD3, 0xF6, 0xF7, 0xFE, 0xFF]

/-- The same for an opcode with a ModR/M byte; and one that looks at mod or reg is listed. -/
@[simp] def ModrmForm.Encodes (op : Byte) : ModrmForm → Prop
  | .ebgb k => ∀ e g, Written (k e g) (op :: encRm Reg8.bits e g.bits) e.wf
  | .evgv k => ∀ e g, Written (k e g) (op :: encRm Reg16.bits e g.bits) e.wf
  | .evsw k => op ∈ fieldOpcodes ∧ ∀ e sr, Written (k e sr) (op :: encRm Reg16.bits e sr.bits3) e.wf
  | .gvm k => op ∈ fieldOpcodes ∧ ∀ g x, Written (k g x) (op :: encMem x g.bits) x.wf
  | .group k => op ∈ fieldOpcodes ∧ ∀ reg, (k reg).Encodes op reg

/-- The same for any opcode. -/
@[simp] def Form.Encodes (op : Byte) : Form → Prop
  | .unassigned => isUnassigned op = true
  | .bare i => Written i [op] true
  | .imm8 k => ∀ b, Written (k b) [op, b] true
  | .imm16 k => ∀ v, Written (k v) (op :: wordBytes v) true
  | .far k => ∀ off seg, Written (k off seg) (op :: wordBytes off ++ wordBytes seg) true
  | .modrm f => f.Encodes op

/-- `P` holds of every entry of a list with its index; the indices are those from `n` up to `k`, without `k`. -/
@[simp] def EachFrom {α : Type} (P : Nat → α → Prop) : Nat → Nat → List α → Prop
  | n, k, [] => n = k
  | n, k, a :: l => P n a ∧ EachFrom P (n + 1) k l

theorem EachFrom.append {α : Type} {P : Nat → α → Prop} {l l' : List α} {n k j : Nat} (h : EachFrom P n k l)
    (h' : EachFrom P k j l') : EachFrom P n j (l ++ l') := by
  induction l generalizing n with
  | nil =>
    obtain rfl : n = k := h
    exact h'
  | cons a l ih => exact ⟨h.1, ih h.2⟩

theorem EachFrom.getD {α : Type} {P : Nat → α → Prop} {l : List α} {n k i : Nat} (h : EachFrom P n k l) (hi : n + i < k)
    (d : α) : P (n + i) (l.getD i d) := by
  induction l generalizing n i with
  | nil =>
    obtain rfl : n = k := h
    omega
  | cons a l ih =>
    cases i with
    | zero => exact h.1
    | succ i =>
      rw [← Nat.add_assoc, Nat.add_right_comm] at hi ⊢
      exact ih h.2 hi

/-- An entry of a group, at the index that is its reg field. -/
@[simp] def GroupForm.EncodesAt (op : Byte) (reg : Nat) (f : GroupForm) : Prop := f.Encodes op (BitVec.ofNat 3 reg)

/-- An entry of the opcode map, at the index that is its opcode byte. -/
@[simp] def Form.EncodesAt (op : Nat) (f : Form) : Prop := f.Encodes (BitVec.ofNat 8 op)

theorem groupOf_encodes {op : Byte} {entries : List GroupForm}
    (h : EachFrom (GroupForm.EncodesAt op) 0 8 entries) (reg : BitVec 3) : (groupOf entries reg).Encodes op reg := by
  have hentry := h.getD (i := reg.toNat) (by omega) .reserved
  simpa [groupOf] using hentry

/-! Each group, and each row of the map by its high nibble, entry by entry. -/

theorem groupByteImm_encodes (reg : BitVec 3) : (groupByteImm reg).Encodes 0x80#8 reg :=
  groupOf_encodes (by simp [GroupForm.Encodes, encode, Instr.wf]) reg

theorem groupWordImm_encodes (reg : BitVec 3) : (groupWordImm reg).Encodes 0x81#8 reg :=
  groupOf_encodes (by simp [GroupForm.Encodes, encode, Instr.wf]) reg

theorem groupByteImmAlias_encodes (reg : BitVec 3) : (groupByteImmAlias reg).Encodes 0x82#8 reg :=
  groupOf_encodes (by simp [GroupForm.Encodes, encode, Instr.wf]) reg

theorem groupWordByteImm_encodes (reg : BitVec 3) : (groupWordByteImm reg).Encodes 0x83#8 reg :=
  groupOf_encodes (by simp [GroupForm.Encodes, encode, Instr.wf]) reg

theorem groupPop_encodes (reg : BitVec 3) : (groupPop reg).Encodes 0x8F#8 reg :=
  groupOf_encodes (by simp [GroupForm.Encodes, encode, Instr.wf]) reg

theorem groupMovByte_encodes (reg : BitVec 3) : (groupMovByte reg).Encodes 0xC6#8 reg :=
  groupOf_encodes (by simp [GroupForm.Encodes, encode, Instr.wf]) reg

theorem groupMovWord_encodes (reg : BitVec 3) : (groupMovWord reg).Encodes 0xC7#8 reg :=
  groupOf_encodes (by simp [GroupForm.Encodes, encode, Instr.wf]) reg

theorem groupIncDecByte_encodes (reg : BitVec 3) : (groupIncDecByte reg).Encodes 0xFE#8 reg :=
  groupOf_encodes (by simp [GroupForm.Encodes, encode, Instr.wf]) reg

theorem groupFive_encodes (reg : BitVec 3) : (groupFive reg).Encodes 0xFF#8 reg :=
  groupOf_encodes (by simp [GroupForm.Encodes, encode, Instr.wf]) reg

theorem groupUnaryByte_encodes (reg : BitVec 3) : (groupUnaryByte reg).Encodes 0xF6#8 reg :=
  groupOf_encodes (by simp [GroupForm.Encodes, encode, Instr.wf]) reg

theorem groupUnaryWord_encodes (reg : BitVec 3) : (groupUnaryWord reg).Encodes 0xF7#8 reg :=
  groupOf_encodes (by simp [GroupForm.Encodes, encode, Instr.wf]) reg

theorem groupShiftByteOne_encodes (reg : BitVec 3) : (groupShiftByteOne reg).Encodes 0xD0#8 reg :=
  groupOf_encodes (by simp [GroupForm.Encodes, encode, Instr.wf]) reg

theorem groupShiftWordOne_encodes (reg : BitVec 3) : (groupShiftWordOne reg).Encodes 0xD1#8 reg :=
  groupOf_encodes (by simp [GroupForm.Encodes, encode, Instr.wf]) reg

theorem groupShiftByteCl_encodes (reg : BitVec 3) : (groupShiftByteCl reg).Encodes 0xD2#8 reg :=
  groupOf_encodes (by simp [GroupForm.Encodes, encode, Instr.wf]) reg

theorem groupShiftWordCl_encodes (reg : BitVec 3) : (groupShiftWordCl reg).Encodes 0xD3#8 reg :=
  groupOf_encodes (by simp [GroupForm.Encodes, encode, Instr.wf]) reg

theorem opcodeRow0_encodes : EachFrom Form.EncodesAt 0x00 0x10 opcodeRow0 := by
  simp [opcodeRow0, encode, Instr.wf, isUnassigned]

theorem opcodeRow1_encodes : EachFrom Form.EncodesAt 0x10 0x20 opcodeRow1 := by
  simp [opcodeRow1, encode, Instr.wf]

theorem opcodeRow2_encodes : EachFrom Form.EncodesAt 0x20 0x30 opcodeRow2 := by
  simp [opcodeRow2, encode, Instr.wf]

theorem opcodeRow3_encodes : EachFrom Form.EncodesAt 0x30 0x40 opcodeRow3 := by
  simp [opcodeRow3, encode, Instr.wf]

theorem opcodeRow4_encodes : EachFrom Form.EncodesAt 0x40 0x50 opcodeRow4 := by
  simp [opcodeRow4, encode, Instr.wf, regOpcode, Reg16.bits]

theorem opcodeRow5_encodes : EachFrom Form.EncodesAt 0x50 0x60 opcodeRow5 := by
  simp [opcodeRow5, encode, Instr.wf, regOpcode, Reg16.bits]

theorem opcodeRow6_encodes : EachFrom Form.EncodesAt 0x60 0x70 opcodeRow6 := by
  simp [opcodeRow6, isUnassigned]

theorem opcodeRow7_encodes : EachFrom Form.EncodesAt 0x70 0x80 opcodeRow7 := by
  simp [opcodeRow7, encode, Instr.wf]

theorem opcodeRow8_encodes : EachFrom Form.EncodesAt 0x80 0x90 opcodeRow8 := by
  simp [opcodeRow8, encode, Instr.wf, groupByteImm_encodes, groupWordImm_encodes, groupByteImmAlias_encodes,
    groupWordByteImm_encodes, groupPop_encodes, fieldOpcodes]

theorem opcodeRow9_encodes : EachFrom Form.EncodesAt 0x90 0xA0 opcodeRow9 := by
  simp [opcodeRow9, encode, Instr.wf, isUnassigned]

theorem opcodeRowA_encodes : EachFrom Form.EncodesAt 0xA0 0xB0 opcodeRowA := by
  simp [opcodeRowA, encode, Instr.wf]

theorem opcodeRowB_encodes : EachFrom Form.EncodesAt 0xB0 0xC0 opcodeRowB := by
  simp [opcodeRowB, encode, Instr.wf, regOpcode, Reg16.bits, Reg8.bits]

theorem opcodeRowC_encodes : EachFrom Form.EncodesAt 0xC0 0xD0 opcodeRowC := by
  simp [opcodeRowC, encode, Instr.wf, groupMovByte_encodes, groupMovWord_encodes, fieldOpcodes, isUnassigned]

theorem opcodeRowD_encodes : EachFrom Form.EncodesAt 0xD0 0xE0 opcodeRowD := by
  simp [opcodeRowD, encode, Instr.wf, groupShiftByteOne_encodes, groupShiftWordOne_encodes, groupShiftByteCl_encodes,
    groupShiftWordCl_encodes, fieldOpcodes, isUnassigned]

theorem opcodeRowE_encodes : EachFrom Form.EncodesAt 0xE0 0xF0 opcodeRowE := by
  simp [opcodeRowE, encode, Instr.wf]

theorem opcodeRowF_encodes : EachFrom Form.EncodesAt 0xF0 0x100 opcodeRowF := by
  simp [opcodeRowF, encode, Instr.wf, groupUnaryByte_encodes, groupUnaryWord_encodes, groupIncDecByte_encodes,
    groupFive_encodes, fieldOpcodes]

theorem opcodeRows_encode : EachFrom Form.EncodesAt 0 0x100 opcodeRows :=
  opcodeRow0_encodes.append opcodeRow1_encodes |>.append opcodeRow2_encodes |>.append opcodeRow3_encodes
    |>.append opcodeRow4_encodes |>.append opcodeRow5_encodes |>.append opcodeRow6_encodes |>.append opcodeRow7_encodes
    |>.append opcodeRow8_encodes |>.append opcodeRow9_encodes |>.append opcodeRowA_encodes |>.append opcodeRowB_encodes
    |>.append opcodeRowC_encodes |>.append opcodeRowD_encodes |>.append opcodeRowE_encodes |>.append opcodeRowF_encodes

/-- R115: each entry of the opcode map builds the instructions whose encoding begins with its opcode byte. -/
theorem opcodeMap_encodes (op : Byte) : (opcodeMap op).Encodes op := by
  have hentry := opcodeRows_encode.getD (i := op.toNat) (by omega) .unassigned
  simpa [opcodeMap] using hentry

/-! ### Malformed combinations (R120 to R122, R502) -/

/-- Whether a group entry rejects a ModR/M byte with this mod. -/
def GroupForm.rejects (mod : BitVec 2) : GroupForm → Bool
  | .reserved => true
  | .m _ => mod == 3#2
  | _ => false

/-- Whether the parser of an opcode with a ModR/M byte rejects this mod and reg. -/
def ModrmForm.rejects (mod : BitVec 2) (reg : BitVec 3) : ModrmForm → Bool
  | .evsw _ => (SReg.ofBits reg).isNone
  | .gvm _ => mod == 3#2
  | .group k => (k reg).rejects mod
  | _ => false

/-- The same for any opcode. -/
def Form.rejects (mod : BitVec 2) (reg : BitVec 3) : Form → Bool
  | .modrm f => f.rejects mod reg
  | _ => false

theorem mem_fieldOpcodes_of_rejects {op : Byte} {f : Form} {mod : BitVec 2} {reg : BitVec 3} (henc : f.Encodes op)
    (h : f.rejects mod reg = true) : op ∈ fieldOpcodes := by
  cases f with
  | modrm f =>
    cases f with
    | evsw | gvm | group => exact henc.1
    | ebgb | evgv => cases h
  | unassigned | bare | imm8 | imm16 | far => cases h

theorem mem_fieldOpcodes_of_isMalformed {op m : Byte} (h : isMalformed op m = true) : op ∈ fieldOpcodes := by
  by_contra hop
  simp [fieldOpcodes] at hop
  simp [isMalformed, hop] at h

/-- The table of R502 reads the mod and reg fields only. -/
theorem isMalformed_fields (op m : Byte) : isMalformed op m = isMalformed op (modrmByte (modField m) (regField m) 0) := by
  have hmod : (modrmByte (modField m) (regField m) 0).extractLsb' 6 2 = m.extractLsb' 6 2 := modField_modrmByte ..
  have hreg : (modrmByte (modField m) (regField m) 0).extractLsb' 3 3 = m.extractLsb' 3 3 := regField_modrmByte ..
  simp only [isMalformed, hmod, hreg]

theorem rejects_of_mem_fieldOpcodes : ∀ op ∈ fieldOpcodes, ∀ (mod : BitVec 2) (reg : BitVec 3),
    (opcodeMap op).rejects mod reg = isMalformed op (modrmByte mod reg 0) := by
  decide

/-- R502: the parser rejects exactly the combinations of the table. -/
theorem opcodeMap_rejects (op m : Byte) : (opcodeMap op).rejects (modField m) (regField m) = isMalformed op m := by
  by_cases hop : op ∈ fieldOpcodes
  · rw [rejects_of_mem_fieldOpcodes op hop, ← isMalformed_fields]
  · have hform : (opcodeMap op).rejects (modField m) (regField m) ≠ true :=
      mt (mem_fieldOpcodes_of_rejects (opcodeMap_encodes op)) hop
    have htable : isMalformed op m ≠ true := mt mem_fieldOpcodes_of_isMalformed hop
    rw [Bool.eq_false_iff.mpr hform, Bool.eq_false_iff.mpr htable]

/-! ### What the decoder reads is an encoding -/

/-- An instruction written as `bytes` after its opcode byte accounts for the bytes taken and those left. -/
theorem Written.wf_and_append {i : Instr} {op : Byte} {bytes rest bs : List Byte} {ok : Bool} (h : Written i (op :: bytes) ok)
    (hok : ok = true) (hbytes : bytes ++ rest = bs) : i.wf = true ∧ encode i ++ rest = op :: bs := by
  obtain ⟨henc, hwf⟩ := h
  exact ⟨hwf.trans hok, by rw [henc, List.cons_append, hbytes]⟩

theorem encode_of_parseGroup {op m : Byte} {f : GroupForm} {bs rest : List Byte} {i : Instr} (henc : f.Encodes op (regField m))
    (hrej : f.rejects (modField m) = isMalformed op m) (h : parseGroup op m f bs = .ok (i, rest)) :
    i.wf = true ∧ encode i ++ rest = op :: m :: bs := by
  cases f with
  | reserved =>
    cases h
    exact ⟨hrej.symm, rfl⟩
  | eb k =>
    obtain ⟨e, he, rfl⟩ := Parsed.wrap_eq_ok.mp h
    obtain ⟨hwf, hbytes⟩ := encRm_of_takeRm Reg8.bits_ofBits he
    exact (henc e).wf_and_append hwf hbytes
  | ev k =>
    obtain ⟨e, he, rfl⟩ := Parsed.wrap_eq_ok.mp h
    obtain ⟨hwf, hbytes⟩ := encRm_of_takeRm Reg16.bits_ofBits he
    exact (henc e).wf_and_append hwf hbytes
  | ebib k =>
    obtain ⟨e, bs', he, h⟩ := Parsed.andThen_eq_ok.mp h
    obtain ⟨imm, himm, rfl⟩ := Parsed.wrap_eq_ok.mp h
    obtain ⟨hwf, hbytes⟩ := encRm_of_takeRm Reg8.bits_ofBits he
    exact (henc e imm).wf_and_append hwf (by simp [takeByte_eq_ok.mp himm, hbytes])
  | eviv k =>
    obtain ⟨e, bs', he, h⟩ := Parsed.andThen_eq_ok.mp h
    obtain ⟨imm, himm, rfl⟩ := Parsed.wrap_eq_ok.mp h
    obtain ⟨hwf, hbytes⟩ := encRm_of_takeRm Reg16.bits_ofBits he
    exact (henc e imm).wf_and_append hwf (by simp [takeWord_eq_ok.mp himm, hbytes])
  | evib k =>
    obtain ⟨e, bs', he, h⟩ := Parsed.andThen_eq_ok.mp h
    obtain ⟨imm, himm, rfl⟩ := Parsed.wrap_eq_ok.mp h
    obtain ⟨hwf, hbytes⟩ := encRm_of_takeRm Reg16.bits_ofBits he
    exact (henc e imm).wf_and_append hwf (by simp [takeByte_eq_ok.mp himm, hbytes])
  | m k =>
    simp only [parseGroup] at h
    split at h
    next h3 =>
      cases h
      exact ⟨hrej.symm.trans (beq_iff_eq.mpr h3), rfl⟩
    next h3 =>
      obtain ⟨x, hx, rfl⟩ := Parsed.wrap_eq_ok.mp h
      obtain ⟨hwf, hbytes⟩ := encMem_of_takeMem h3 hx (regField m)
      rw [modrmByte_fields] at hbytes
      exact (henc x).wf_and_append hwf hbytes

theorem encode_of_parseModrm {op m : Byte} {f : ModrmForm} {bs rest : List Byte} {i : Instr} (henc : f.Encodes op)
    (hrej : f.rejects (modField m) (regField m) = isMalformed op m) (h : parseModrm op m f bs = .ok (i, rest)) :
    i.wf = true ∧ encode i ++ rest = op :: m :: bs := by
  cases f with
  | ebgb k =>
    obtain ⟨e, he, rfl⟩ := Parsed.wrap_eq_ok.mp h
    obtain ⟨hwf, hbytes⟩ := encRm_of_takeRm Reg8.bits_ofBits he
    exact (henc e _).wf_and_append hwf (by rw [Reg8.bits_ofBits, hbytes])
  | evgv k =>
    obtain ⟨e, he, rfl⟩ := Parsed.wrap_eq_ok.mp h
    obtain ⟨hwf, hbytes⟩ := encRm_of_takeRm Reg16.bits_ofBits he
    exact (henc e _).wf_and_append hwf (by rw [Reg16.bits_ofBits, hbytes])
  | evsw k =>
    simp only [parseModrm] at h
    split at h
    next hnone =>
      cases h
      exact ⟨hrej.symm.trans (Option.isNone_iff_eq_none.mpr hnone), rfl⟩
    next sr hsr =>
      obtain ⟨e, he, rfl⟩ := Parsed.wrap_eq_ok.mp h
      obtain ⟨hwf, hbytes⟩ := encRm_of_takeRm Reg16.bits_ofBits he
      exact (henc.2 e sr).wf_and_append hwf (by rw [SReg.bits3_of_ofBits hsr, hbytes])
  | gvm k =>
    simp only [parseModrm] at h
    split at h
    next h3 =>
      cases h
      exact ⟨hrej.symm.trans (beq_iff_eq.mpr h3), rfl⟩
    next h3 =>
      obtain ⟨x, hx, rfl⟩ := Parsed.wrap_eq_ok.mp h
      obtain ⟨hwf, hbytes⟩ := encMem_of_takeMem h3 hx (regField m)
      rw [modrmByte_fields] at hbytes
      exact (henc.2 _ x).wf_and_append hwf (by rw [Reg16.bits_ofBits, hbytes])
  | group k => exact encode_of_parseGroup (henc.2 (regField m)) hrej h

theorem encode_of_parseForm {op : Byte} {f : Form} {bs rest : List Byte} {i : Instr} (henc : f.Encodes op)
    (hrej : ∀ m, f.rejects (modField m) (regField m) = isMalformed op m) (h : parseForm op f bs = .ok (i, rest)) :
    i.wf = true ∧ encode i ++ rest = op :: bs := by
  cases f with
  | unassigned =>
    cases h
    exact ⟨henc, rfl⟩
  | bare j =>
    cases h
    exact henc.wf_and_append rfl rfl
  | imm8 k =>
    obtain ⟨b, hb, rfl⟩ := Parsed.wrap_eq_ok.mp h
    exact (henc b).wf_and_append rfl (takeByte_eq_ok.mp hb)
  | imm16 k =>
    obtain ⟨v, hv, rfl⟩ := Parsed.wrap_eq_ok.mp h
    exact (henc v).wf_and_append rfl (takeWord_eq_ok.mp hv)
  | far k =>
    obtain ⟨off, bs', hoff, h⟩ := Parsed.andThen_eq_ok.mp h
    obtain ⟨seg, hseg, rfl⟩ := Parsed.wrap_eq_ok.mp h
    exact (henc off seg).wf_and_append rfl (by simp [takeWord_eq_ok.mp hseg, takeWord_eq_ok.mp hoff])
  | modrm f =>
    obtain ⟨m, bs', hm, h⟩ := Parsed.andThen_eq_ok.mp h
    rw [← takeByte_eq_ok.mp hm]
    exact encode_of_parseModrm henc (hrej m) h

/-- What `decode` reads is well formed, and it is written as the bytes that were taken. -/
theorem encode_of_decode {bs rest : List Byte} {i : Instr} (h : decode bs = .ok (i, rest)) :
    i.wf = true ∧ encode i ++ rest = bs := by
  cases bs with
  | nil => cases h
  | cons op bs => exact encode_of_parseForm (opcodeMap_encodes op) (opcodeMap_rejects op) h

/-! ### An encoding is decoded: one lemma per operand form -/

section
variable {op : Byte} {rest : List Byte}

theorem decode_bare {i : Instr} (hop : opcodeMap op = .bare i) : decode (op :: rest) = .ok (i, rest) := by
  rw [decode, hop, parseForm]

theorem decode_imm8 {k : Byte → Instr} (hop : opcodeMap op = .imm8 k) (b : Byte) : decode (op :: b :: rest) = .ok (k b, rest) := by
  rw [decode, hop, parseForm, takeByte, Parsed.wrap_ok]

theorem decode_imm16 {k : Word → Instr} (hop : opcodeMap op = .imm16 k) (v : Word) :
    decode (op :: wordBytes v ++ rest) = .ok (k v, rest) := by
  rw [List.cons_append, decode, hop, parseForm, takeWord_wordBytes, Parsed.wrap_ok]

theorem decode_far {k : Word → Word → Instr} (hop : opcodeMap op = .far k) (off seg : Word) :
    decode (op :: wordBytes off ++ wordBytes seg ++ rest) = .ok (k off seg, rest) := by
  rw [List.append_assoc, List.cons_append, decode, hop, parseForm, takeWord_wordBytes, Parsed.andThen_ok, takeWord_wordBytes,
    Parsed.wrap_ok]

theorem decode_modrm {f : ModrmForm} (hop : opcodeMap op = .modrm f) (m : Byte) (bs : List Byte) :
    decode (op :: m :: bs) = parseModrm op m f bs := by
  rw [decode, hop, parseForm, takeByte, Parsed.andThen_ok]

theorem decode_ebgb {k : Rm Reg8 → Reg8 → Instr} (hop : opcodeMap op = .modrm (.ebgb k)) {e : Rm Reg8} {g : Reg8} {i : Instr}
    (hi : k e g = i) (hwf : e.wf = true) : decode (op :: encRm Reg8.bits e g.bits ++ rest) = .ok (i, rest) := by
  obtain ⟨m, bs, hbytes, hreg, hread⟩ := takeRm_of_encRm Reg8.ofBits_bits hwf g.bits rest
  rw [List.cons_append, hbytes, decode_modrm hop, parseModrm, hread, Parsed.wrap_ok, hreg, Reg8.ofBits_bits, hi]

theorem decode_evgv {k : Rm Reg16 → Reg16 → Instr} (hop : opcodeMap op = .modrm (.evgv k)) {e : Rm Reg16} {g : Reg16} {i : Instr}
    (hi : k e g = i) (hwf : e.wf = true) : decode (op :: encRm Reg16.bits e g.bits ++ rest) = .ok (i, rest) := by
  obtain ⟨m, bs, hbytes, hreg, hread⟩ := takeRm_of_encRm Reg16.ofBits_bits hwf g.bits rest
  rw [List.cons_append, hbytes, decode_modrm hop, parseModrm, hread, Parsed.wrap_ok, hreg, Reg16.ofBits_bits, hi]

theorem decode_evsw {k : Rm Reg16 → SReg → Instr} (hop : opcodeMap op = .modrm (.evsw k)) {e : Rm Reg16} {sr : SReg} {i : Instr}
    (hi : k e sr = i) (hwf : e.wf = true) : decode (op :: encRm Reg16.bits e sr.bits3 ++ rest) = .ok (i, rest) := by
  obtain ⟨m, bs, hbytes, hreg, hread⟩ := takeRm_of_encRm Reg16.ofBits_bits hwf sr.bits3 rest
  simp only [List.cons_append, hbytes, decode_modrm hop, parseModrm, hreg, SReg.ofBits_bits3, hread, Parsed.wrap_ok, hi]

theorem decode_gvm {k : Reg16 → MemRef → Instr} (hop : opcodeMap op = .modrm (.gvm k)) (g : Reg16) {x : MemRef}
    (hwf : x.wf = true) : decode (op :: encMem x g.bits ++ rest) = .ok (k g x, rest) := by
  obtain ⟨m, bs, hbytes, hmod, hreg, hread⟩ := takeMem_of_encMem hwf g.bits rest
  rw [List.cons_append, hbytes, decode_modrm hop, parseModrm, if_neg hmod, hread, Parsed.wrap_ok, hreg, Reg16.ofBits_bits]

variable {k : BitVec 3 → GroupForm} {reg : BitVec 3}

theorem decode_groupEb {c : Rm Reg8 → Instr} (hop : opcodeMap op = .modrm (.group k)) (hreg : k reg = .eb c) {e : Rm Reg8}
    (hwf : e.wf = true) : decode (op :: encRm Reg8.bits e reg ++ rest) = .ok (c e, rest) := by
  obtain ⟨m, bs, hbytes, hfield, hread⟩ := takeRm_of_encRm Reg8.ofBits_bits hwf reg rest
  rw [List.cons_append, hbytes, decode_modrm hop, parseModrm, hfield, hreg, parseGroup, hread, Parsed.wrap_ok]

theorem decode_groupEv {c : Rm Reg16 → Instr} (hop : opcodeMap op = .modrm (.group k)) (hreg : k reg = .ev c) {e : Rm Reg16}
    (hwf : e.wf = true) : decode (op :: encRm Reg16.bits e reg ++ rest) = .ok (c e, rest) := by
  obtain ⟨m, bs, hbytes, hfield, hread⟩ := takeRm_of_encRm Reg16.ofBits_bits hwf reg rest
  rw [List.cons_append, hbytes, decode_modrm hop, parseModrm, hfield, hreg, parseGroup, hread, Parsed.wrap_ok]

theorem decode_groupEbIb {c : Rm Reg8 → Byte → Instr} (hop : opcodeMap op = .modrm (.group k)) (hreg : k reg = .ebib c)
    {e : Rm Reg8} (hwf : e.wf = true) (imm : Byte) : decode (op :: encRm Reg8.bits e reg ++ [imm] ++ rest) = .ok (c e imm, rest) := by
  obtain ⟨m, bs, hbytes, hfield, hread⟩ := takeRm_of_encRm Reg8.ofBits_bits hwf reg ([imm] ++ rest)
  rw [List.append_assoc, List.cons_append, hbytes, decode_modrm hop, parseModrm, hfield, hreg, parseGroup, hread, Parsed.andThen_ok]
  rfl

theorem decode_groupEvIb {c : Rm Reg16 → Byte → Instr} (hop : opcodeMap op = .modrm (.group k)) (hreg : k reg = .evib c)
    {e : Rm Reg16} (hwf : e.wf = true) (imm : Byte) : decode (op :: encRm Reg16.bits e reg ++ [imm] ++ rest) = .ok (c e imm, rest) := by
  obtain ⟨m, bs, hbytes, hfield, hread⟩ := takeRm_of_encRm Reg16.ofBits_bits hwf reg ([imm] ++ rest)
  rw [List.append_assoc, List.cons_append, hbytes, decode_modrm hop, parseModrm, hfield, hreg, parseGroup, hread, Parsed.andThen_ok]
  rfl

theorem decode_groupEvIv {c : Rm Reg16 → Word → Instr} (hop : opcodeMap op = .modrm (.group k)) (hreg : k reg = .eviv c)
    {e : Rm Reg16} (hwf : e.wf = true) (imm : Word) :
    decode (op :: encRm Reg16.bits e reg ++ wordBytes imm ++ rest) = .ok (c e imm, rest) := by
  obtain ⟨m, bs, hbytes, hfield, hread⟩ := takeRm_of_encRm Reg16.ofBits_bits hwf reg (wordBytes imm ++ rest)
  rw [List.append_assoc, List.cons_append, hbytes, decode_modrm hop, parseModrm, hfield, hreg, parseGroup, hread, Parsed.andThen_ok,
    takeWord_wordBytes, Parsed.wrap_ok]

theorem decode_groupM {c : MemRef → Instr} (hop : opcodeMap op = .modrm (.group k)) (hreg : k reg = .m c) {x : MemRef}
    (hwf : x.wf = true) : decode (op :: encMem x reg ++ rest) = .ok (c x, rest) := by
  obtain ⟨m, bs, hbytes, hmod, hfield, hread⟩ := takeMem_of_encMem hwf reg rest
  rw [List.cons_append, hbytes, decode_modrm hop, parseModrm, hfield, hreg, parseGroup, if_neg hmod, hread, Parsed.wrap_ok]

end

/-- R117: the 31 bytes are those the opcode map leaves unassigned. -/
theorem isUnassigned_iff_mem (op : Byte) : isUnassigned op = true ↔ op ∈ Claims.noInstruction := by
  revert op
  decide

theorem decode_unassigned {op : Byte} {rest : List Byte} (h : isUnassigned op = true) :
    decode (op :: rest) = .ok (.unimplementedOpcode op, rest) := by
  have hall : ∀ b ∈ Claims.noInstruction, opcodeMap b = .unassigned := by
    intro b hb
    fin_cases hb <;> rfl
  rw [decode, hall op ((isUnassigned_iff_mem op).mp h), parseForm]

/-- R502: a malformed combination is decoded from its opcode and ModR/M bytes alone (log 7). -/
theorem parseModrm_of_rejects {op m : Byte} {f : ModrmForm} (h : f.rejects (modField m) (regField m) = true) (bs : List Byte) :
    parseModrm op m f bs = .ok (.invalidOperandEncoding op m, bs) := by
  cases f with
  | ebgb | evgv => cases h
  | evsw k => rw [parseModrm, Option.isNone_iff_eq_none.mp h]
  | gvm k => rw [parseModrm, if_pos (beq_iff_eq.mp h)]
  | group k =>
    simp only [ModrmForm.rejects] at h
    rw [parseModrm]
    cases hk : k (regField m) with
    | reserved => rfl
    | m c =>
      rw [hk] at h
      rw [parseGroup, if_pos (beq_iff_eq.mp h)]
    | eb | ev | ebib | eviv | evib =>
      rw [hk] at h
      cases h

theorem decode_malformed {op m : Byte} (h : isMalformed op m = true) (rest : List Byte) :
    decode (op :: m :: rest) = .ok (.invalidOperandEncoding op m, rest) := by
  rw [← opcodeMap_rejects] at h
  cases hop : opcodeMap op with
  | modrm f =>
    rw [hop] at h
    rw [decode_modrm hop, parseModrm_of_rejects h]
  | unassigned | bare | imm8 | imm16 | far =>
    rw [hop] at h
    cases h

/-- The encoding of a well-formed instruction is decoded to it, and the bytes after it are left. -/
theorem decode_encode {i : Instr} (h : i.wf = true) (rest : List Byte) : decode (encode i ++ rest) = .ok (i, rest) := by
  cases i with
  -- an opcode byte alone
  | daa | das | aaa | aas | xchgAxCx | xchgAxDx | xchgAxBx | xchgAxSp | xchgAxBp | xchgAxSi | xchgAxDi | xlat | cbw | cwd
  | inAlDx | inAxDx | outDxAl | outDxAx | pushAx | pushCx | pushDx | pushBx | pushSp | pushBp | pushSi | pushDi | pushEs
  | pushCs | pushSs | pushDs | popEs | popSs | popDs | pushf | popf | movsb | movsw | cmpsb | cmpsw | stosb | stosw | lodsb
  | lodsw | scasb | scasw | retNear | retFar | clc | stc | cmc | cli | sti | cld | std | sahf | lahf | int3 | into | iret | hlt
  | nop | prefixEs | prefixCs | prefixSs | prefixDs | lockF0 | lockF1 | repnz | repz => exact decode_bare rfl
  -- a register number in the opcode byte
  | incR16 r | decR16 r | popR16 r => cases r <;> exact decode_bare rfl
  | movR8Ib r => cases r <;> exact decode_imm8 rfl _
  | movR16Iv r => cases r <;> exact decode_imm16 rfl _
  -- an immediate or displacement after the opcode byte
  | addAlIb | orAlIb | adcAlIb | sbbAlIb | andAlIb | subAlIb | xorAlIb | cmpAlIb | testAlIb | aam | aad | inAlIb | inAxIb
  | outIbAl | outIbAx | jo | jno | jb | jnb | je | jne | jbe | jnbe | js | jns | jp | jnp | jl | jnl | jle | jnle | jmpShort
  | loopne | loope | loop | jcxz | intIb => exact decode_imm8 rfl _
  | addAxIv | orAxIv | adcAxIv | sbbAxIv | andAxIv | subAxIv | xorAxIv | cmpAxIv | testAxIv | movAlOb | movAxOv | movObAl
  | movOvAx | jmpNear | callNear | retNearIw | retFarIw => exact decode_imm16 rfl _
  | jmpFar | callFar => exact decode_far rfl _ _
  -- ModR/M with a register or segment register in the reg field (R113)
  | addEbGb | addGbEb | orEbGb | orGbEb | adcEbGb | adcGbEb | sbbEbGb | sbbGbEb | andEbGb | andGbEb | subEbGb | subGbEb
  | xorEbGb | xorGbEb | cmpEbGb | cmpGbEb | testEbGb | movEbGb | movGbEb | xchgEbGb => exact decode_ebgb rfl rfl h
  | addEvGv | addGvEv | orEvGv | orGvEv | adcEvGv | adcGvEv | sbbEvGv | sbbGvEv | andEvGv | andGvEv | subEvGv | subGvEv
  | xorEvGv | xorGvEv | cmpEvGv | cmpGvEv | testEvGv | movEvGv | movGvEv | xchgEvGv => exact decode_evgv rfl rfl h
  | movEwSw | movSwEw => exact decode_evsw rfl rfl h
  | leaGvM | lesGvMp | ldsGvMp => exact decode_gvm rfl _ h
  -- group opcodes (R119)
  | incEb | decEb | notEb | negEb | rolEb1 | rolEbCl | rorEb1 | rorEbCl | rclEb1 | rclEbCl | rcrEb1 | rcrEbCl | shlEb1 | shlEbCl
  | shrEb1 | shrEbCl | sarEb1 | sarEbCl | mulEb | imulEb | divEb | idivEb => exact decode_groupEb rfl rfl h
  | incEv | decEv | notEv | negEv | rolEv1 | rolEvCl | rorEv1 | rorEvCl | rclEv1 | rclEvCl | rcrEv1 | rcrEvCl | shlEv1 | shlEvCl
  | shrEv1 | shrEvCl | sarEv1 | sarEvCl | mulEv | imulEv | divEv | idivEv | pushEv | popEv | jmpEv | callEv =>
    exact decode_groupEv rfl rfl h
  | addEbIb | addEbIb82 | orEbIb | orEbIb82 | adcEbIb | adcEbIb82 | sbbEbIb | sbbEbIb82 | andEbIb | andEbIb82 | subEbIb
  | subEbIb82 | xorEbIb | xorEbIb82 | cmpEbIb | cmpEbIb82 | testEbIb | movEbIb => exact decode_groupEbIb rfl rfl h _
  | addEvIbs | orEvIbs | adcEvIbs | sbbEvIbs | andEvIbs | subEvIbs | xorEvIbs | cmpEvIbs => exact decode_groupEvIb rfl rfl h _
  | addEvIv | orEvIv | adcEvIv | sbbEvIv | andEvIv | subEvIv | xorEvIv | cmpEvIv | testEvIv | movEvIv =>
    exact decode_groupEvIv rfl rfl h _
  | jmpMp | callMp => exact decode_groupM rfl rfl h
  -- the two rows that select no instruction (R117, R502)
  | unimplementedOpcode => exact decode_unassigned h
  | invalidOperandEncoding => exact decode_malformed h rest

/-- The decoder and the encoder agree on every byte list (R100, R123, R124). -/
theorem decode_eq_ok_iff {bs rest : List Byte} {i : Instr} : decode bs = .ok (i, rest) ↔ i.wf = true ∧ encode i ++ rest = bs := by
  refine ⟨encode_of_decode, ?_⟩
  rintro ⟨hwf, rfl⟩
  exact decode_encode hwf rest

/-- Settles O2: each operand form is read back as it was written, and each constructor has one form. -/
theorem decodeOfEncode : Obligations.DecodeOfEncode := fun _ rest hwf => decode_encode hwf rest

/-- Settles O3: each entry of the opcode map builds only instructions written with its opcode byte. -/
theorem encodeOfDecode : Obligations.EncodeOfDecode := fun _ _ _ h => encode_of_decode h

/-- Settles O1: the fifteen words, run through the decoder. -/
theorem writtenWordsDecode : Obligations.WrittenWordsDecode := by
  unfold Obligations.WrittenWordsDecode
  and_intros <;> rfl

/-! ### The operand bytes and the groups as the spec's tables give them (R111, R112, R119, R143) -/

open Claims

/-- R111: the ModR/M byte as a sum of its fields. -/
theorem modrmByte_ofNat : ∀ mod < 4, ∀ reg < 8, ∀ rm < 8,
    BitVec.ofNat 8 (mod * 64 + reg * 8 + rm) = modrmByte (BitVec.ofNat 2 mod) (BitVec.ofNat 3 reg) (BitVec.ofNat 3 rm) := by
  decide

/-- The entries of a list of register names are numbered by `bits`, from 0 to 7. -/
def NumberedBy {ρ : Type} (bits : ρ → BitVec 3) (regs : List ρ) : Prop :=
  ∀ {k r}, regs[k]? = some r → k < 8 ∧ bits r = BitVec.ofNat 3 k

theorem numberedBy_of_length {ρ : Type} {bits : ρ → BitVec 3} {regs : List ρ} (hlen : regs.length = 8)
    (h : ∀ k (hk : k < regs.length), bits regs[k] = BitVec.ofNat 3 k) : NumberedBy bits regs := by
  intro k r hr
  obtain ⟨hk, rfl⟩ := List.getElem?_eq_some_iff.mp hr
  exact ⟨hlen ▸ hk, h k hk⟩

theorem byteRegs_numbered : NumberedBy Reg8.bits byteRegs := numberedBy_of_length rfl (by decide)

theorem wordRegs_numbered : NumberedBy Reg16.bits wordRegs := numberedBy_of_length rfl (by decide)

theorem bases_numbered : NumberedBy Base.bits [.bxSi, .bxDi, .bpSi, .bpDi, .si, .di, .bp, .bx] := numberedBy_of_length rfl (by decide)

/-- The bytes of the table of R143 are those the encoder writes. -/
theorem eq_encMem_of_memOperandBytes {reg : Nat} (hreg : reg < 8) {m : MemRef} {bs : List Byte} (h : memOperandBytes reg m bs) :
    m.wf = true ∧ bs = encMem m (BitVec.ofNat 3 reg) := by
  obtain ⟨mod, rm, disp, ⟨b, hb, hform⟩, rfl⟩ := h
  obtain ⟨hrm, hbits⟩ := bases_numbered hb
  have byte {mod : Nat} (hmod : mod < 4) := modrmByte_ofNat mod hmod reg hreg rm hrm
  rcases hform with ⟨rfl, h6, rfl, rfl⟩ | ⟨rfl, rfl, lo, hi, rfl, rfl⟩ | ⟨rfl, d, rfl, rfl⟩ | ⟨rfl, lo, hi, rfl, rfl⟩
  · refine ⟨wf_based_none.mpr ?_, by rw [byte (by decide), encMem, hbits]; rfl⟩
    rw [hbits]
    exact fun e => h6 (by simpa [Nat.mod_eq_of_lt hrm] using congrArg BitVec.toNat e)
  · exact ⟨rfl, by rw [byte (by decide), encMem, wordBytes_append]; rfl⟩
  · exact ⟨wf_based_d8 b d, by rw [byte (by decide), encMem, hbits]; rfl⟩
  · exact ⟨wf_based_d16 b _, by rw [byte (by decide), encMem, hbits, wordBytes_append]; rfl⟩

theorem eq_encRm_of_operandBytes {ρ : Type} {bits : ρ → BitVec 3} {regs : List ρ} (hregs : NumberedBy bits regs) {reg : Nat}
    (hreg : reg < 8) {e : Rm ρ} {bs : List Byte} (h : operandBytes regs reg e bs) :
    e.wf = true ∧ bs = encRm bits e (BitVec.ofNat 3 reg) := by
  rcases h with ⟨rm, r, hr, rfl, rfl⟩ | ⟨m, rfl, hm⟩
  · obtain ⟨hrm, hbits⟩ := hregs hr
    exact ⟨rfl, by rw [modrmByte_ofNat 3 (by decide) reg hreg rm hrm, encRm, hbits]; rfl⟩
  · exact eq_encMem_of_memOperandBytes hreg hm

theorem Written.decode {i : Instr} {bytes : List Byte} {ok : Bool} (h : Written i bytes ok) (hok : ok = true) (rest : List Byte) :
    decode (bytes ++ rest) = .ok (i, rest) := by
  obtain ⟨rfl, rfl⟩ := h
  exact decode_encode hok rest

theorem groupEb_written : ∀ p ∈ groupEb, p.2.1 < 8 ∧
    ∀ e, Written (p.2.2 e) (p.1 :: encRm Reg8.bits e (BitVec.ofNat 3 p.2.1)) e.wf := by
  intro p hp
  fin_cases hp <;> exact ⟨by decide, fun _ => ⟨rfl, rfl⟩⟩

theorem groupEv_written : ∀ p ∈ groupEv, p.2.1 < 8 ∧
    ∀ e, Written (p.2.2 e) (p.1 :: encRm Reg16.bits e (BitVec.ofNat 3 p.2.1)) e.wf := by
  intro p hp
  fin_cases hp <;> exact ⟨by decide, fun _ => ⟨rfl, rfl⟩⟩

theorem groupEbIb_written : ∀ p ∈ groupEbIb, p.2.1 < 8 ∧
    ∀ e imm, Written (p.2.2 e imm) (p.1 :: encRm Reg8.bits e (BitVec.ofNat 3 p.2.1) ++ [imm]) e.wf := by
  intro p hp
  fin_cases hp <;> exact ⟨by decide, fun _ _ => ⟨rfl, rfl⟩⟩

theorem groupEvIv_written : ∀ p ∈ groupEvIv, p.2.1 < 8 ∧
    ∀ e imm, Written (p.2.2 e imm) (p.1 :: encRm Reg16.bits e (BitVec.ofNat 3 p.2.1) ++ wordBytes imm) e.wf := by
  intro p hp
  fin_cases hp <;> exact ⟨by decide, fun _ _ => ⟨rfl, rfl⟩⟩

theorem groupEvIbs_written : ∀ p ∈ groupEvIbs, p.2.1 < 8 ∧
    ∀ e imm, Written (p.2.2 e imm) (p.1 :: encRm Reg16.bits e (BitVec.ofNat 3 p.2.1) ++ [imm]) e.wf := by
  intro p hp
  fin_cases hp <;> exact ⟨by decide, fun _ _ => ⟨rfl, rfl⟩⟩

/-- Settles O4: the bytes of each table are an encoding (R111, R119, R143), and an encoding is decoded to its instruction. -/
theorem operandAndGroupDecoding : Obligations.OperandAndGroupDecoding := by
  intro bs b reg
  refine ⟨fun e r hr hb => ?_, fun e r hr hb => ?_, fun op i hmem e hb => ?_, fun op i hmem e hb => ?_,
    fun op i hmem e imm hb => ?_, fun op i hmem e lo hi hb => ?_, fun op i hmem e imm hb => ?_,
    fun m hm => ⟨fun hreg => ?_, fun hreg => ?_⟩⟩
  · obtain ⟨hreg, hbits⟩ := byteRegs_numbered hr
    obtain ⟨hwf, rfl⟩ := eq_encRm_of_operandBytes byteRegs_numbered hreg hb
    rw [← hbits]
    exact decode_encode (i := .movGbEb r e) hwf bs
  · obtain ⟨hreg, hbits⟩ := wordRegs_numbered hr
    obtain ⟨hwf, rfl⟩ := eq_encRm_of_operandBytes wordRegs_numbered hreg hb
    rw [← hbits]
    exact decode_encode (i := .movGvEv r e) hwf bs
  · obtain ⟨hreg, hwritten⟩ := groupEb_written _ hmem
    obtain ⟨hwf, rfl⟩ := eq_encRm_of_operandBytes byteRegs_numbered hreg hb
    exact (hwritten e).decode hwf bs
  · obtain ⟨hreg, hwritten⟩ := groupEv_written _ hmem
    obtain ⟨hwf, rfl⟩ := eq_encRm_of_operandBytes wordRegs_numbered hreg hb
    exact (hwritten e).decode hwf bs
  · obtain ⟨hreg, hwritten⟩ := groupEbIb_written _ hmem
    obtain ⟨hwf, rfl⟩ := eq_encRm_of_operandBytes byteRegs_numbered hreg hb
    rw [← (hwritten e imm).decode hwf bs, List.append_assoc]
    rfl
  · obtain ⟨hreg, hwritten⟩ := groupEvIv_written _ hmem
    obtain ⟨hwf, rfl⟩ := eq_encRm_of_operandBytes wordRegs_numbered hreg hb
    rw [← (hwritten e (hi ++ lo)).decode hwf bs, wordBytes_append, List.append_assoc]
    rfl
  · obtain ⟨hreg, hwritten⟩ := groupEvIbs_written _ hmem
    obtain ⟨hwf, rfl⟩ := eq_encRm_of_operandBytes wordRegs_numbered hreg hb
    rw [← (hwritten e imm).decode hwf bs, List.append_assoc]
    rfl
  · subst hreg
    obtain ⟨hwf, rfl⟩ := eq_encMem_of_memOperandBytes (by decide) hm
    exact decode_encode (i := .callMp m) hwf bs
  · subst hreg
    obtain ⟨hwf, rfl⟩ := eq_encMem_of_memOperandBytes (by decide) hm
    exact decode_encode (i := .jmpMp m) hwf bs

end Sys2Proof
end

section
/-! PROOFS of the statements of 30_encoding.md about the step: what a fetch reads, what one turn of `prefixLoop` does, and from
these the whole step; and the tier 2 instructions under STRICT_SOURCE_SET. -/

open Sys2Proof.Laws
open Sys2Proof.Claims

namespace Sys2Proof.Machine

/-! ### Fetching (R30, R101, R102) -/

theorem State.length_fetchWindow (s : State) (n : Nat) : (s.fetchWindow n).length = n := by simp [State.fetchWindow]

theorem State.getElem?_fetchWindow (s : State) {n k : Nat} (h : k < n) : (s.fetchWindow n)[k]? = some (s.readByte (s.fetchAddr k)) := by
  simp [State.fetchWindow, h]

/-- R102: the k-th byte is at Translate(CS, (IP + k) mod 0x10000). -/
theorem State.fetchAddr_eq (s : State) (k : Nat) :
    s.fetchAddr k = ((s.seg.cs.toNat <<< 4) + (s.ip.toNat + k) % 0x10000) &&& 0xFFFFF := by
  have hoff : (s.ip + BitVec.ofNat 16 k).toNat % 0x10000 = (s.ip.toNat + k) % 0x10000 := by
    rw [BitVec.toNat_add, BitVec.toNat_ofNat]
    omega
  rw [State.fetchAddr, translate_eq_shift_and_mask, hoff]

/-- A window is its first `n` bytes and the window from IP + n on. -/
theorem State.fetchWindow_add (s : State) (n m : Nat) :
    s.fetchWindow (n + m) = s.fetchWindow n ++ (s.setIp (s.ip + BitVec.ofNat 16 n)).fetchWindow m := by
  have haddr (k : Nat) : (s.setIp (s.ip + BitVec.ofNat 16 n)).fetchAddr k = s.fetchAddr (n + k) := by
    simp only [State.fetchAddr, State.setIp_ip, State.setIp_seg, BitVec.add_assoc, BitVec.ofNat_add]
  simp only [State.fetchWindow, List.range_add, List.map_append, List.map_map, haddr]
  rfl

/-- What the first bytes of a longer window are, and what the bytes after them. -/
theorem State.fetchWindow_split {s : State} {n m : Nat} {xs ys : List Byte} (h : s.fetchWindow (n + m) = xs ++ ys)
    (hlen : xs.length = n) : s.fetchWindow n = xs ∧ (s.setIp (s.ip + BitVec.ofNat 16 n)).fetchWindow m = ys := by
  rw [State.fetchWindow_add] at h
  exact List.append_inj h (by rw [State.length_fetchWindow, hlen])

/-- R101, from `decode_window`: an encoding has at most six bytes. -/
theorem length_encode_le {i : Instr} (h : i.wf = true) : (encode i).length ≤ 6 := by
  obtain ⟨j, rest, hdecode, -, hle⟩ := decode_window (encode i ++ List.replicate 6 0) (by simp)
  rw [decode_encode h] at hdecode
  cases hdecode
  simpa using hle

theorem State.fetchDecode_of_decode {s : State} {i : Instr} {rest : List Byte} (h : decode (s.fetchWindow maxLength) = .ok (i, rest)) :
    s.fetchDecode
      = some (i, (s.setIp (s.ip + BitVec.ofNat 16 (maxLength - rest.length))).setCtx { s.ctx with opIp := s.ip }) := by
  rw [State.fetchDecode, h]

/-- When the next bytes are an encoding, its instruction is fetched and IP passes its bytes. -/
theorem State.fetchDecode_of_encode {s : State} {i : Instr} (hwf : i.wf = true) (h : s.fetchWindow (encode i).length = encode i) :
    s.fetchDecode = some (i, (s.setIp (s.ip + BitVec.ofNat 16 (encode i).length)).setCtx { s.ctx with opIp := s.ip }) := by
  obtain ⟨k, hk⟩ := Nat.exists_eq_add_of_le (length_encode_le hwf)
  have hdecode := decode_encode hwf ((s.setIp (s.ip + BitVec.ofNat 16 (encode i).length)).fetchWindow k)
  have hwindow := s.fetchWindow_add (encode i).length k
  rw [h, ← hk] at hwindow
  rw [← hwindow] at hdecode
  rw [State.fetchDecode_of_decode hdecode, State.length_fetchWindow, maxLength, hk, Nat.add_sub_cancel]

/-! ### Prefixes (R105) -/

theorem exec_of_isPrefix {p : Instr} (h : p.isPrefix = true) (s : State) : exec p s = .next (s.setCtx (recorded s.ctx p)) := by
  cases p with
  | prefixEs | prefixCs | prefixSs | prefixDs | lockF0 | lockF1 | repnz | repz => rfl
  | _ => cases h

/-- Prefixes are one byte long (R105). -/
theorem encode_of_isPrefix {p : Instr} (h : p.isPrefix = true) : p.wf = true ∧ (encode p).length = 1 := by
  cases p with
  | prefixEs | prefixCs | prefixSs | prefixDs | lockF0 | lockF1 | repnz | repz => exact ⟨rfl, rfl⟩
  | _ => cases h

theorem length_flatMap_encode {ps : List Instr} (h : ∀ p ∈ ps, p.isPrefix = true) : (ps.flatMap encode).length = ps.length := by
  induction ps with
  | nil => rfl
  | cons p ps ih =>
    rw [List.forall_mem_cons] at h
    rw [List.flatMap_cons, List.length_append, (encode_of_isPrefix h.1).2, ih h.2, List.length_cons, Nat.add_comm]

/-- Prefixes do not record where they stand. -/
theorem recorded_opIp (c : DecodeCtx) (o : Word) (p : Instr) : recorded { c with opIp := o } p = { recorded c p with opIp := o } := by
  unfold recorded
  split <;> rfl

theorem foldl_recorded_opIp (c : DecodeCtx) (o : Word) (ps : List Instr) :
    ps.foldl recorded { c with opIp := o } = { ps.foldl recorded c with opIp := o } := by
  induction ps generalizing c with
  | nil => rfl
  | cons p ps ih => rw [List.foldl_cons, List.foldl_cons, recorded_opIp, ih]

/-! ### Turns of `prefixLoop` (R104, R106) -/

/-- One turn of the loop at one of the prefixes. -/
theorem State.prefixLoop_of_isPrefix {s u : State} {p : Instr} (hfetch : s.fetchDecode = some (p, u)) (hp : p.isPrefix = true)
    (n : Nat) : s.prefixLoop (n + 1) = (u.setCtx (recorded u.ctx p)).prefixLoop n := by
  simp only [State.prefixLoop, hfetch, hp, exec_of_isPrefix hp, if_true]

/-- The last turn of the loop, at an instruction. -/
theorem State.prefixLoop_of_not_isPrefix {s u : State} {i : Instr} (hfetch : s.fetchDecode = some (i, u))
    (hi : i.isPrefix = false) (n : Nat) : s.prefixLoop (n + 1) = withCtx DecodeCtx.clear (exec i u) := by
  simp only [State.prefixLoop, hfetch, hi]
  rfl

/-- R106: a run of prefixes takes as many turns, moves IP past them and leaves the context as the prefixes recorded it. -/
theorem State.prefixLoop_prefixes {ps : List Instr} (hps : ∀ p ∈ ps, p.isPrefix = true) {s : State}
    (h : s.fetchWindow ps.length = ps.flatMap encode) (n : Nat) :
    ∃ o, s.prefixLoop (ps.length + n)
      = ((s.setIp (s.ip + BitVec.ofNat 16 ps.length)).setCtx { ps.foldl recorded s.ctx with opIp := o }).prefixLoop n := by
  induction ps generalizing s with
  | nil => exact ⟨s.ctx.opIp, by rw [List.length_nil, Nat.zero_add, BitVec.add_zero]; rfl⟩
  | cons p ps ih =>
    obtain ⟨hp, hps⟩ := List.forall_mem_cons.mp hps
    obtain ⟨hwf, hlen⟩ := encode_of_isPrefix hp
    rw [List.length_cons, Nat.add_comm, List.flatMap_cons] at h
    obtain ⟨hfirst, hrest⟩ := State.fetchWindow_split h hlen
    have hfetch := State.fetchDecode_of_encode hwf (hlen.symm ▸ hfirst)
    rw [List.length_cons, Nat.add_right_comm, State.prefixLoop_of_isPrefix hfetch hp, hlen]
    obtain ⟨o, ho⟩ := ih hps (s := ((s.setIp (s.ip + BitVec.ofNat 16 1)).setCtx (recorded { s.ctx with opIp := s.ip } p))) hrest
    refine ⟨o, ho.trans ?_⟩
    rw [recorded_opIp, State.setCtx_ctx, foldl_recorded_opIp, Nat.add_comm, BitVec.ofNat_add, ← BitVec.add_assoc]
    rfl

/-! ### The step -/

/-- Settles O7: the first fetch gives none of the prefixes, so the loop's first turn is its last. -/
theorem stepRunsTheDecodedInstruction : Obligations.StepRunsTheDecodedInstruction := by
  refine ⟨fun s n => ⟨s.length_fetchWindow n, fun k hk => ?_⟩, fun s i rest hdecode hi => ?_⟩
  · rw [s.getElem?_fetchWindow hk, State.fetchAddr_eq]
  · exact State.prefixLoop_of_not_isPrefix (s := s.beginStep) (State.fetchDecode_of_decode hdecode) hi 65535

/-- Settles O8: one turn of the loop for each of the prefixes, and the last one for the instruction. -/
theorem prefixesAndInstructionAreOneStep : Obligations.PrefixesAndInstructionAreOneStep := by
  intro s ps i hps hlen hi hwf hbytes
  obtain ⟨hprefixes, hinstr⟩ := State.fetchWindow_split hbytes (length_flatMap_encode hps)
  have hturns : 65536 = ps.length + (65535 - ps.length + 1) := by omega
  obtain ⟨o, ho⟩ := State.prefixLoop_prefixes hps (s := s.beginStep) hprefixes (65535 - ps.length + 1)
  rw [← hturns] at ho
  refine ho.trans ((State.prefixLoop_of_not_isPrefix (State.fetchDecode_of_encode hwf ?_) hi _).trans ?_)
  · exact hinstr
  · rw [BitVec.ofNat_add, ← BitVec.add_assoc]
    rfl

/-- Settles O5: the decoder and the encoder agree on the term of the 31 bytes, which behind prefixes is an instruction like others. -/
theorem bytesThatSelectNoInstruction : Obligations.BytesThatSelectNoInstruction := by
  refine ⟨rfl, by decide, fun op bs _ => ⟨?_, fun hop => ?_⟩, fun _ _ => rfl, fun s ps op hps hlen hop hbytes => ?_⟩
  · rintro ⟨b, rest, hdecode⟩
    obtain ⟨hwf, hbytes⟩ := encode_of_decode hdecode
    obtain rfl : b = op := (List.cons.inj hbytes).1
    exact (isUnassigned_iff_mem b).mp hwf
  · exact ⟨op, bs, decode_unassigned ((isUnassigned_iff_mem op).mpr hop)⟩
  · exact prefixesAndInstructionAreOneStep s ps (.unimplementedOpcode op) hps hlen rfl ((isUnassigned_iff_mem op).mpr hop) hbytes

/-! ### A segment of prefixes (R110) -/

/-- The eight bytes of R105 with their terms. -/
def prefixTable : List (Byte × Instr) :=
  [(0x26, .prefixEs), (0x2E, .prefixCs), (0x36, .prefixSs), (0x3E, .prefixDs), (0xF2, .repnz), (0xF3, .repz), (0xF0, .lockF0),
    (0xF1, .lockF1)]

theorem isPrefix_of_mem_prefixTable {b : Byte} {p : Instr} (h : (b, p) ∈ prefixTable) : p.isPrefix = true ∧ encode p = [b] := by
  fin_cases h <;> exact ⟨rfl, rfl⟩

/-- Settles O12: each byte is its term's encoding, and the term records itself. -/
theorem prefixesRecordThemselves : Obligations.PrefixesRecordThemselves := by
  intro b p h
  obtain ⟨hp, hbyte⟩ := isPrefix_of_mem_prefixTable h
  refine ⟨fun rest => ?_, exec_of_isPrefix hp⟩
  have hdecode := decode_encode (encode_of_isPrefix hp).1 rest
  rwa [hbyte] at hdecode

/-- Every byte of the code segment is one of the eight prefixes. -/
def State.OnlyPrefixes (s : State) : Prop := ∀ off : Word, s.read8 s.seg.cs off ∈ prefixTable.map Prod.fst

theorem State.prefixLoop_of_onlyPrefixes {s : State} (h : s.OnlyPrefixes) (n : Nat) : s.prefixLoop n = .fault .prefixLoopNeverEnds := by
  induction n generalizing s with
  | zero => rfl
  | succ n ih =>
    obtain ⟨⟨b, p⟩, hmem, hb⟩ := List.mem_map.mp (h s.ip)
    obtain ⟨hp, hbyte⟩ := isPrefix_of_mem_prefixTable hmem
    obtain ⟨hwf, hlen⟩ := encode_of_isPrefix hp
    have hwindow : s.fetchWindow (encode p).length = encode p := by
      rw [hlen, hbyte, show b = s.read8 s.seg.cs s.ip from hb]
      show [s.read8 s.seg.cs (s.ip + 0#16)] = _
      rw [BitVec.add_zero]
    rw [State.prefixLoop_of_isPrefix (State.fetchDecode_of_encode hwf hwindow) hp]
    exact ih h

/-- A window of 65,536 bytes is the whole code segment: IP wraps (R102). -/
theorem State.read8_mem_fetchWindow (s : State) (off : Word) : s.read8 s.seg.cs off ∈ s.fetchWindow 65536 := by
  refine List.mem_map.mpr ⟨(off - s.ip).toNat, List.mem_range.mpr (off - s.ip).isLt, ?_⟩
  rw [State.fetchAddr, BitVec.ofNat_toNat, BitVec.setWidth_eq, BitVec.add_comm, BitVec.sub_add_cancel]
  rfl

/-- Settles O9: after any number of turns the next byte is one of the prefixes again, so the loop runs out of turns. -/
theorem prefixOnlySegmentNeverCompletes : Obligations.PrefixOnlySegmentNeverCompletes := by
  intro s h
  refine State.prefixLoop_of_onlyPrefixes (s := s.beginStep) (fun off => ?_) 65536
  have htable : ∀ b ∈ ([0x26, 0x2E, 0x36, 0x3E, 0xF0, 0xF1, 0xF2, 0xF3] : List Byte), b ∈ prefixTable.map Prod.fst := by decide
  exact htable _ (h _ (s.read8_mem_fetchWindow off))

/-! ### Tier 2 instructions (R116) -/

theorem State.tier2_of_strict {s : State} (h : s.cfg.strictSourceSet = true) (op : Byte) (t : State) :
    s.tier2 op t = .fault (.unimplementedOpcode op s.seg.cs s.ctx.opIp) := by
  rw [State.tier2, h]
  rfl

/-- Settles O10: each tier 2 instruction is `State.tier2` with its own opcode byte. -/
theorem tierTwoUnderStrictSourceSet : Obligations.TierTwoUnderStrictSourceSet := by
  intro i s hi hstrict
  cases i with
  | testEbGb | testEvGv | testAlIb | testAxIv | testEbIb | testEvIv | incR16 | incEb | incEv | decR16 | decEb | decEv | notEb | notEv
  | negEb | negEv | xchgEbGb | xchgEvGv | xchgAxCx | xchgAxDx | xchgAxBx | xchgAxSp | xchgAxBp | xchgAxSi | xchgAxDi | nop | pushEv
  | popEv | cbw | cwd | lesGvMp | ldsGvMp | aam | aad | xlat => exact State.tier2_of_strict hstrict _ _
  | _ => cases hi

end Sys2Proof.Machine
end


section
/-! PROOFS of the statements of 40_operands_modrm.md: the effective address as a sum of integers wrapped to 16 bits, what an `E`
operand resolves to, and the far pointer of LES and LDS. -/

open Sys2Proof.Claims

namespace Sys2Proof.Machine

/-! ### The effective address over integers (R143, R144) -/

/-- The table of R143: the registers of a form are added without wrapping and the sum is wrapped once. -/
theorem baseSum_eq_ofInt (s : State) (b : Base) : baseSum s b = BitVec.ofInt 16 (baseRegisters s b) := by
  have one (x : Word) : x = BitVec.ofInt 16 x.toNat := by simp
  have two (x y : Word) : x + y = BitVec.ofInt 16 ((x.toNat + y.toNat : Nat) : Int) := by
    rw [BitVec.ofInt_natCast, BitVec.ofNat_add, BitVec.ofNat_toNat, BitVec.ofNat_toNat, BitVec.setWidth_eq, BitVec.setWidth_eq]
  cases b with
  | bxSi | bxDi | bpSi | bpDi => exact two _ _
  | si | di | bp | bx => exact one _

theorem effectiveAddress_direct (s : State) (d : Word) : effectiveAddress s (.direct d) = BitVec.ofInt 16 d.toNat := by
  simp [effectiveAddress]

theorem effectiveAddress_noDisp (s : State) (b : Base) :
    effectiveAddress s (.based b .none) = BitVec.ofInt 16 (baseRegisters s b) :=
  (BitVec.add_zero _).trans (baseSum_eq_ofInt s b)

/-- R112: a byte displacement counts as a signed integer. -/
theorem effectiveAddress_disp8 (s : State) (b : Base) (d : Byte) :
    effectiveAddress s (.based b (.d8 d)) = BitVec.ofInt 16 (baseRegisters s b + d.toInt) := by
  rw [BitVec.ofInt_add, ← baseSum_eq_ofInt]
  rfl

theorem effectiveAddress_disp16 (s : State) (b : Base) (d : Word) :
    effectiveAddress s (.based b (.d16 d)) = BitVec.ofInt 16 (baseRegisters s b + d.toNat) := by
  rw [BitVec.ofInt_add, ← baseSum_eq_ofInt, BitVec.ofInt_natCast, BitVec.ofNat_toNat, BitVec.setWidth_eq]
  rfl

/-! ### The operand (R140 to R146) -/

/-- Settles O40: the offset form by form, the default segment base by base, and the override read in its place. -/
theorem operandResolution : Obligations.OperandResolution := by
  refine fun s => ⟨fun r => rfl, fun m => ?_⟩
  intro off default seg
  have hoff : effectiveAddress s m = BitVec.ofInt 16 off := by
    cases m with
    | direct d => exact effectiveAddress_direct s d
    | based b disp =>
      cases disp with
      | none => exact effectiveAddress_noDisp s b
      | d8 d => exact effectiveAddress_disp8 s b d
      | d16 d => exact effectiveAddress_disp16 s b d
  have hdefault : defaultSegment m = default := by
    cases m with
    | direct d => rfl
    | based b d => cases b <;> rfl
  have hseg : s.seg.get (s.ctx.override.getD (defaultSegment m)) = seg := by
    rw [hdefault]
    unfold seg
    cases s.ctx.override with
    | none => cases default <;> rfl
    | some r => cases r <;> rfl
  exact ⟨congrArg₂ Operand.memory hseg hoff, hoff, hdefault, hseg⟩

/-! ### Far pointers (R152, R314, R315) -/

/-- R116: without STRICT_SOURCE_SET a tier 2 instruction has its ordinary effect. -/
theorem State.tier2_of_not_strict {s : State} (h : s.cfg.strictSourceSet = false) (op : Byte) (t : State) :
    s.tier2 op t = .next t := by
  rw [State.tier2, h]
  rfl

/-- R152: the segment word is two bytes above the offset word, with the offset wrapped. -/
theorem State.farSegment_eq (s : State) (m : MemRef) : s.farSegment m =
    s.read16 (segmentFor s (defaultSegment m)) (BitVec.ofNat 16 (((effectiveAddress s m).toNat + 2) % 65536)) :=
  congrArg (s.read16 _) (BitVec.eq_of_toNat_eq (by simp))

/-- Both registers are loaded from the state before either write. -/
theorem changed_loadFarPointer (s : State) (sr : SReg) (g : Reg16) (m : MemRef) :
    Changed { Changes.keep s with gpr := s.gpr.set g (s.farOffset m), seg := s.seg.set sr (s.farSegment m) } s
      (loadFarPointer sr g m s) :=
  ((changed_keep s).setReg16 g _).setSreg sr _

/-- Settles O42: both instructions are `loadFarPointer`, LES with ES and LDS with DS. -/
theorem lesAndLdsLoadFarPointer : Obligations.LoadFarPointer := by
  intro s g m hstrict seg off o v
  have hv : v = s.farSegment m := (s.farSegment_eq m).symm
  rw [hv]
  exact ⟨⟨_, State.tier2_of_not_strict hstrict _ _, changed_loadFarPointer s .es g m, rfl⟩,
    ⟨_, State.tier2_of_not_strict hstrict _ _, changed_loadFarPointer s .ds g m, rfl⟩⟩

end Sys2Proof.Machine
end

section
/-! PROOFS of the statements of 41_alu_binary.md: the flag unit against the integer rules of R38 and R171 to R173 at every width, the
readings of CF and OF (R174), and the instructions of the family as uses of the common execution (R177). -/

open Sys2Proof.Claims

namespace Sys2Proof.Machine

/-! ### The flag formulas and the integer rules (R38, R39, R171 to R173) -/

/-- The number of elements with `p` is even exactly when the `p`s of all elements add up to false. -/
theorem length_filter_even {α : Type} (p : α → Bool) (l : List α) :
    ((l.filter p).length % 2 == 0) = !(l.foldr (fun x b => p x ^^ b) false) := by
  induction l with
  | nil => rfl
  | cons x l ih =>
    have flip (n : Nat) : ((n + 1) % 2 == 0) = !(n % 2 == 0) := by rw [Bool.eq_iff_iff]; simp; omega
    rw [List.foldr_cons, List.filter_cons]
    cases p x <;> simp [flip, ih]

/-- R39: the chain of exclusive ors is the count of 1 bits. -/
theorem parity_eq_evenOnes (b : Byte) : parity b = evenOnes b.toNat := by
  rw [evenOnes, length_filter_even]
  simp [parity, List.range_succ, BitVec.testBit_toNat]

/-- A bit of a word as the rules test it: the word masked with the bit alone is not 0. -/
theorem and_two_pow_ne_zero {w : Nat} (x : BitVec w) (k : Nat) : decide (x.toNat &&& 2 ^ k ≠ 0) = x.getLsbD k := by
  rw [Nat.and_two_pow, BitVec.testBit_toNat]
  cases x.getLsbD k <;> simp

theorem szpRule_setSzp {w : Nat} (f : Flags) (r : BitVec w) : SzpRule w r.toNat (f.setSzp r) := by
  refine ⟨?_, ?_, ?_⟩
  · rw [Bool.eq_iff_iff]
    simp [Flags.setSzp, BitVec.toNat_eq]
  · rw [and_two_pow_ne_zero, ← BitVec.msb_eq_getLsbD_last]
    rfl
  · show parity (r.setWidth 8) = _
    rw [parity_eq_evenOnes, BitVec.toNat_setWidth, ← Nat.and_two_pow_sub_one_eq_mod]

/-- R171. -/
theorem addRule_addWith {w : Nat} (l r : BitVec w) (c : Bool) (f : Flags) :
    AddRule w l.toNat r.toNat c.toNat (addWith l r c f).1.toNat (addWith l r c f).2 := by
  refine ⟨BitVec.toNat_ofNat .., rfl, ?_, ?_, szpRule_setSzp f _⟩
  · rw [← BitVec.toNat_xor, ← BitVec.toNat_xor]
    exact (and_two_pow_ne_zero _ 4).symm
  · rw [← BitVec.toNat_xor, ← BitVec.toNat_xor, ← BitVec.toNat_and, and_two_pow_ne_zero, ← BitVec.msb_eq_getLsbD_last]
    rfl

/-- R172. -/
theorem subRule_subWith {w : Nat} (l r : BitVec w) (c : Bool) (f : Flags) :
    SubRule w l.toNat r.toNat c.toNat (subWith l r c f).1.toNat (subWith l r c f).2 := by
  refine ⟨?_, rfl, ?_, ?_, szpRule_setSzp f _⟩
  · show ((BitVec.ofInt w _).toNat : Int) = _
    rw [BitVec.toNat_ofInt, Int.toNat_of_nonneg (Int.emod_nonneg _ (by positivity))]
    push_cast
    rfl
  · rw [← BitVec.toNat_xor, ← BitVec.toNat_xor]
    exact (and_two_pow_ne_zero _ 4).symm
  · rw [← BitVec.toNat_xor, ← BitVec.toNat_xor, ← BitVec.toNat_and, and_two_pow_ne_zero, ← BitVec.msb_eq_getLsbD_last]
    rfl

/-- R173. -/
theorem logicRule_logicWith {w : Nat} (x : BitVec w) (f : Flags) : LogicRule w x.toNat (logicWith x f).2 :=
  ⟨rfl, rfl, rfl, szpRule_setSzp f x⟩

/-- R170: each operation by its own rule. -/
theorem aluRule_alu {w : Nat} (op : AluOp) (l r : BitVec w) (f : Flags) :
    AluRule w op l.toNat r.toNat f.cf (alu op l r f).1.toNat (alu op l r f).2 := by
  cases op with
  | add => exact addRule_addWith l r false f
  | adc => exact addRule_addWith l r f.cf f
  | sub | cmp => exact subRule_subWith l r false f
  | sbb => exact subRule_subWith l r f.cf f
  | or =>
    rw [AluRule, ← BitVec.toNat_or]
    exact ⟨rfl, logicRule_logicWith _ f⟩
  | and =>
    rw [AluRule, ← BitVec.toNat_and]
    exact ⟨rfl, logicRule_logicWith _ f⟩
  | xor =>
    rw [AluRule, ← BitVec.toNat_xor]
    exact ⟨rfl, logicRule_logicWith _ f⟩

/-! ### The readings of CF and OF (R174) -/

/-- R174: CF of an addition says that the unsigned result does not fit. -/
theorem addWith_cf_iff {w : Nat} (l r : BitVec w) (c : Bool) (f : Flags) :
    (addWith l r c f).2.cf = true ↔ 2 ^ w ≤ l.toNat + r.toNat + c.toNat := by
  have hpos := Nat.two_pow_pos w
  show decide (2 ^ w - 1 < _) = true ↔ _
  rw [decide_eq_true_eq]
  omega

/-- R174: CF of a subtraction says that the unsigned result is negative. -/
theorem subWith_cf_iff {w : Nat} (l r : BitVec w) (c : Bool) (f : Flags) :
    (subWith l r c f).2.cf = true ↔ l.toNat < r.toNat + c.toNat := by
  show decide ((l.toNat : Int) - r.toNat - c.toNat < 0) = true ↔ _
  rw [decide_eq_true_eq]
  omega

/-- The sign bit of an exclusive or says that the signs differ. -/
theorem msb_xor_iff {w : Nat} (x y : BitVec w) : (x ^^^ y).msb = true ↔ ¬(x.toInt < 0 ↔ y.toInt < 0) := by
  rw [BitVec.msb_xor, bne_iff_ne, ne_eq, Bool.eq_iff_iff, BitVec.msb_eq_toInt, BitVec.msb_eq_toInt, decide_eq_true_eq,
    decide_eq_true_eq]

/-- OF of an addition by signs: the result has neither operand's. -/
theorem addWith_of_iff_signs {w : Nat} (l r : BitVec w) (c : Bool) (f : Flags) :
    (addWith l r c f).2.of = true ↔
      (¬(l.toInt < 0 ↔ (addWith l r c f).1.toInt < 0) ∧ ¬(r.toInt < 0 ↔ (addWith l r c f).1.toInt < 0)) := by
  rw [← msb_xor_iff, ← msb_xor_iff, ← Bool.and_eq_true, ← BitVec.msb_and]
  rfl

/-- OF of a subtraction by signs: the left operand has neither the right one's nor the result's. -/
theorem subWith_of_iff_signs {w : Nat} (l r : BitVec w) (c : Bool) (f : Flags) :
    (subWith l r c f).2.of = true ↔
      (¬(l.toInt < 0 ↔ r.toInt < 0) ∧ ¬(l.toInt < 0 ↔ (subWith l r c f).1.toInt < 0)) := by
  rw [← msb_xor_iff, ← msb_xor_iff, ← Bool.and_eq_true, ← BitVec.msb_and]
  rfl

/-- Modulo `2 ^ w` the signed readings of the operands give the same sum. -/
theorem addWith_eq_ofInt {w : Nat} (l r : BitVec w) (c : Bool) (f : Flags) :
    (addWith l r c f).1 = BitVec.ofInt w (l.toInt + r.toInt + c.toNat) := by
  simp [addWith, BitVec.ofInt_add, BitVec.ofNat_add]

/-- Modulo `2 ^ w` the signed readings of the operands give the same difference. -/
theorem subWith_eq_ofInt {w : Nat} (l r : BitVec w) (c : Bool) (f : Flags) :
    (subWith l r c f).1 = BitVec.ofInt w (l.toInt - r.toInt - c.toNat) := by
  simp [subWith, Int.sub_eq_add_neg, BitVec.ofInt_add, BitVec.ofInt_neg]

theorem toInt_range {n : Nat} (x : BitVec (n + 1)) : -2 ^ n ≤ x.toInt ∧ x.toInt < 2 ^ n := ⟨x.le_toInt, x.toInt_lt⟩

/-- An integer of one bit more than the word is read back exactly or off by one turn. -/
theorem toInt_ofInt_wraps {n : Nat} (t : Int) (hlo : -(2 * 2 ^ n) ≤ t) (hhi : t < 2 * 2 ^ n) :
    (BitVec.ofInt (n + 1) t).toInt = t ∨ (BitVec.ofInt (n + 1) t).toInt = t - 2 * 2 ^ n
      ∨ (BitVec.ofInt (n + 1) t).toInt = t + 2 * 2 ^ n := by
  have hpow : ((2 ^ (n + 1) : Nat) : Int) = 2 * 2 ^ n := by push_cast; exact Int.pow_succ' ..
  have self {u : Int} (hlo : -2 ^ n ≤ u) (hhi : u < 2 ^ n) : u.bmod (2 ^ (n + 1)) = u :=
    Int.bmod_eq_of_le_mul_two (by omega) (by omega)
  rw [BitVec.toInt_ofInt]
  rcases lt_or_ge t (-2 ^ n) with hdown | hdown
  · rw [← Int.add_bmod_right, hpow, self (by omega) (by omega)]
    exact .inr (.inr rfl)
  · rcases lt_or_ge t (2 ^ n) with hup | hup
    · exact .inl (self hdown hup)
    · rw [← Int.sub_bmod_right, hpow, self (by omega) (by omega)]
      exact .inr (.inl rfl)

/-- R174: OF of an addition says that the signed result does not fit. -/
theorem addWith_of_iff {n : Nat} (l r : BitVec (n + 1)) (c : Bool) (f : Flags) :
    (addWith l r c f).2.of = true ↔
      (l.toInt + r.toInt + c.toNat < -(2 ^ n) ∨ 2 ^ n - 1 < l.toInt + r.toInt + c.toNat) := by
  have hl := toInt_range l
  have hr := toInt_range r
  have hc := c.toNat_le
  have hres := toInt_range (addWith l r c f).1
  rw [addWith_of_iff_signs]
  rw [addWith_eq_ofInt] at hres ⊢
  have hwrap := toInt_ofInt_wraps (n := n) (l.toInt + r.toInt + c.toNat) (by omega) (by omega)
  omega

/-- R174: OF of a subtraction says that the signed result does not fit. -/
theorem subWith_of_iff {n : Nat} (l r : BitVec (n + 1)) (c : Bool) (f : Flags) :
    (subWith l r c f).2.of = true ↔
      (l.toInt - r.toInt - c.toNat < -(2 ^ n) ∨ 2 ^ n - 1 < l.toInt - r.toInt - c.toNat) := by
  have hl := toInt_range l
  have hr := toInt_range r
  have hc := c.toNat_le
  have hres := toInt_range (subWith l r c f).1
  rw [subWith_of_iff_signs]
  rw [subWith_eq_ofInt] at hres ⊢
  have hwrap := toInt_ofInt_wraps (n := n) (l.toInt - r.toInt - c.toNat) (by omega) (by omega)
  omega

/-- Settles O26: at any width of at least one bit the result is at most one turn away from the exact sum or difference, and signs and
range tell whether it is. -/
theorem carryAndOverflowReadings : Obligations.CarryAndOverflowReadings := by
  intro w hw l r c f
  have hcases : w = 8 ∨ w = 16 := by simpa using hw
  obtain ⟨n, rfl⟩ : ∃ n, w = n + 1 := ⟨w - 1, by omega⟩
  exact ⟨addWith_cf_iff l r c f, addWith_of_iff l r c f, subWith_cf_iff l r c f, subWith_of_iff l r c f⟩

/-! ### Common execution (R177) -/

/-- Flags and a byte operand written. -/
theorem changed_setFlags_writeE8 (s : State) (f : Flags) (o : Operand Reg8) (v : Byte) :
    Changed ((Changes.keep s).putE8 o v) s ((s.setFlags f).writeE8 o v) :=
  ((changed_keep s).setFlags f).writeE8 rfl o v

/-- Flags and a word operand written. -/
theorem changed_setFlags_writeE16 (s : State) (f : Flags) (o : Operand Reg16) (v : Word) :
    Changed ((Changes.keep s).putE16 s.cfg.arch o v) s ((s.setFlags f).writeE16 o v) :=
  ((changed_keep s).setFlags f).writeE16 rfl o v

@[simp] theorem aluTo8_flags (op : AluOp) (dst : Operand Reg8) (r : Byte) (s : State) :
    (aluTo8 op dst r s).flags = (alu op (s.readE8 dst) r s.flags).2 := by
  unfold aluTo8
  split
  · rfl
  · exact State.writeE8_flags ..

@[simp] theorem aluTo16_flags (op : AluOp) (dst : Operand Reg16) (r : Word) (s : State) :
    (aluTo16 op dst r s).flags = (alu op (s.readE16 dst) r s.flags).2 := by
  unfold aluTo16
  split
  · rfl
  · exact State.writeE16_flags ..

theorem changed_aluTo8 (op : AluOp) (dst : Operand Reg8) (r : Byte) (s : State) :
    Changed (if op = .cmp then Changes.keep s else (Changes.keep s).putE8 dst (alu op (s.readE8 dst) r s.flags).1) s
      (aluTo8 op dst r s) := by
  unfold aluTo8
  split
  · exact (changed_keep s).setFlags _
  · exact changed_setFlags_writeE8 ..

theorem changed_aluTo16 (op : AluOp) (dst : Operand Reg16) (r : Word) (s : State) :
    Changed (if op = .cmp then Changes.keep s else (Changes.keep s).putE16 s.cfg.arch dst (alu op (s.readE16 dst) r s.flags).1) s
      (aluTo16 op dst r s) := by
  unfold aluTo16
  split
  · exact (changed_keep s).setFlags _
  · exact changed_setFlags_writeE16 ..

/-- An instruction that is the common execution on bytes has the rule's result, flags and frame. -/
theorem aluByte_of_exec {op : AluOp} {i : Instr} {dst : Operand Reg8} {r : Byte} {s : State}
    (h : exec i s = .next (aluTo8 op dst r s)) : AluByte op i dst r s := by
  refine ⟨_, _, h, ?_, ?_, changed_aluTo8 op dst r s⟩
  · rw [aluTo8_flags]
    exact aluRule_alu op (s.readE8 dst) r s.flags
  · rw [aluTo8_flags, alu_other]

/-- The same on words. -/
theorem aluWord_of_exec {op : AluOp} {i : Instr} {dst : Operand Reg16} {r : Word} {s : State}
    (h : exec i s = .next (aluTo16 op dst r s)) : AluWord op i dst r s := by
  refine ⟨_, _, h, ?_, ?_, changed_aluTo16 op dst r s⟩
  · rw [aluTo16_flags]
    exact aluRule_alu op (s.readE16 dst) r s.flags
  · rw [aluTo16_flags, alu_other]

/-! ### The eight operations form by form (R175, R176, R188) -/

theorem exec_opsEbGb (e : Rm Reg8) (g : Reg8) (s : State) : ∀ p ∈ opsEbGb, exec (p.2 e g) s = aluEbGb p.1 e g s := by
  simp only [opsEbGb, List.forall_mem_cons]
  exact ⟨rfl, rfl, rfl, rfl, rfl, rfl, rfl, rfl, nofun⟩

theorem exec_opsGbEb (g : Reg8) (e : Rm Reg8) (s : State) : ∀ p ∈ opsGbEb, exec (p.2 g e) s = aluGbEb p.1 g e s := by
  simp only [opsGbEb, List.forall_mem_cons]
  exact ⟨rfl, rfl, rfl, rfl, rfl, rfl, rfl, rfl, nofun⟩

theorem exec_opsAlIb (imm : Byte) (s : State) : ∀ p ∈ opsAlIb, exec (p.2 imm) s = aluAlIb p.1 imm s := by
  simp only [opsAlIb, List.forall_mem_cons]
  exact ⟨rfl, rfl, rfl, rfl, rfl, rfl, rfl, rfl, nofun⟩

theorem exec_opsEbIb (e : Rm Reg8) (imm : Byte) (s : State) : ∀ p ∈ opsEbIb, exec (p.2 e imm) s = aluEbIb p.1 e imm s := by
  simp only [opsEbIb, List.forall_mem_cons]
  exact ⟨rfl, rfl, rfl, rfl, rfl, rfl, rfl, rfl, rfl, rfl, rfl, rfl, rfl, rfl, rfl, rfl, nofun⟩

theorem exec_opsEvGv (e : Rm Reg16) (g : Reg16) (s : State) : ∀ p ∈ opsEvGv, exec (p.2 e g) s = aluEvGv p.1 e g s := by
  simp only [opsEvGv, List.forall_mem_cons]
  exact ⟨rfl, rfl, rfl, rfl, rfl, rfl, rfl, rfl, nofun⟩

theorem exec_opsGvEv (g : Reg16) (e : Rm Reg16) (s : State) : ∀ p ∈ opsGvEv, exec (p.2 g e) s = aluGvEv p.1 g e s := by
  simp only [opsGvEv, List.forall_mem_cons]
  exact ⟨rfl, rfl, rfl, rfl, rfl, rfl, rfl, rfl, nofun⟩

theorem exec_opsAxIv (imm : Word) (s : State) : ∀ p ∈ opsAxIv, exec (p.2 imm) s = aluAxIv p.1 imm s := by
  simp only [opsAxIv, List.forall_mem_cons]
  exact ⟨rfl, rfl, rfl, rfl, rfl, rfl, rfl, rfl, nofun⟩

theorem exec_opsEvIv (e : Rm Reg16) (imm : Word) (s : State) : ∀ p ∈ opsEvIv, exec (p.2 e imm) s = aluEvIv p.1 e imm s := by
  simp only [opsEvIv, List.forall_mem_cons]
  exact ⟨rfl, rfl, rfl, rfl, rfl, rfl, rfl, rfl, nofun⟩

theorem exec_opsEvIbs (e : Rm Reg16) (imm : Byte) (s : State) : ∀ p ∈ opsEvIbs, exec (p.2 e imm) s = aluEvIbs p.1 e imm s := by
  simp only [opsEvIbs, List.forall_mem_cons]
  exact ⟨rfl, rfl, rfl, rfl, rfl, rfl, rfl, rfl, nofun⟩

/-- Settles O25: in every form an operation is the common execution of R177 on the form's operands. -/
theorem binaryAlu : Obligations.BinaryAlu :=
  ⟨fun _ _ h e g s => aluByte_of_exec (exec_opsEbGb e g s _ h),
    fun _ _ h g e s => aluByte_of_exec (exec_opsGbEb g e s _ h),
    fun _ _ h imm s => aluByte_of_exec (exec_opsAlIb imm s _ h),
    fun _ _ h e imm s => aluByte_of_exec (exec_opsEbIb e imm s _ h),
    fun _ _ h e g s => aluWord_of_exec (exec_opsEvGv e g s _ h),
    fun _ _ h g e s => aluWord_of_exec (exec_opsGvEv g e s _ h),
    fun _ _ h imm s => aluWord_of_exec (exec_opsAxIv imm s _ h),
    fun _ _ h e imm s => aluWord_of_exec (exec_opsEvIv e imm s _ h),
    fun _ _ h e imm s => aluWord_of_exec (exec_opsEvIbs e imm s _ h)⟩

/-! ### TEST (R190) -/

theorem testOf_of_exec {w : Nat} {l r : BitVec w} {i : Instr} {s : State}
    (h : exec i s = .next (s.setFlags (logicWith (l &&& r) s.flags).2)) : TestOf w i l.toNat r.toNat s := by
  refine ⟨_, h, ?_, rfl, (changed_keep s).setFlags _⟩
  rw [← BitVec.toNat_and]
  exact logicRule_logicWith _ s.flags

/-- Settles O27: every form sets the flags of the AND and calls no write. -/
theorem testWritesOnlyFlags : Obligations.TestWritesOnlyFlags := by
  intro s hstrict
  have run (op : Byte) (t : State) : s.tier2 op t = .next t := State.tier2_of_not_strict hstrict op t
  exact ⟨fun _ _ => testOf_of_exec (run 0x84 _), fun _ _ => testOf_of_exec (run 0x85 _), fun _ => testOf_of_exec (run 0xA8 _),
    fun _ => testOf_of_exec (run 0xA9 _), fun _ _ => testOf_of_exec (run 0xF6 _), fun _ _ => testOf_of_exec (run 0xF7 _)⟩

/-! ### INC and DEC (R192, R193) -/

/-- The two forms of INC on a word. -/
theorem exec_incWord {s : State} (hstrict : s.cfg.strictSourceSet = false) {i : Instr} {o : Operand Reg16}
    (h : (∃ e, i = .incEv e ∧ o = resolve s e) ∨ ∃ r, i = .incR16 r ∧ o = .register r) : exec i s = .next (incTo16 o s) := by
  rcases h with ⟨e, rfl, rfl⟩ | ⟨r, rfl, rfl⟩
  · exact State.tier2_of_not_strict hstrict 0xFF _
  · exact State.tier2_of_not_strict hstrict (regOpcode 0x40 r) _

/-- The two forms of DEC on a word. -/
theorem exec_decWord {s : State} (hstrict : s.cfg.strictSourceSet = false) {i : Instr} {o : Operand Reg16}
    (h : (∃ e, i = .decEv e ∧ o = resolve s e) ∨ ∃ r, i = .decR16 r ∧ o = .register r) : exec i s = .next (decTo16 o s) := by
  rcases h with ⟨e, rfl, rfl⟩ | ⟨r, rfl, rfl⟩
  · exact State.tier2_of_not_strict hstrict 0xFF _
  · exact State.tier2_of_not_strict hstrict (regOpcode 0x48 r) _

/-- Settles O28: the flags are those of adding or subtracting 1 with the old CF put back. -/
theorem incDecKeepCarry : Obligations.IncDecKeepCarry := by
  intro s hstrict
  refine ⟨fun e => ?_, fun e => ?_, fun i o => ⟨fun h => ?_, fun h => ?_⟩⟩
  · exact ⟨incTo8 (resolve s e) s, _, _, State.tier2_of_not_strict hstrict 0xFE _, addRule_addWith _ 1#8 false s.flags, rfl,
      State.writeE8_flags .., changed_setFlags_writeE8 ..⟩
  · exact ⟨decTo8 (resolve s e) s, _, _, State.tier2_of_not_strict hstrict 0xFE _, subRule_subWith _ 1#8 false s.flags, rfl,
      State.writeE8_flags .., changed_setFlags_writeE8 ..⟩
  · exact ⟨incTo16 o s, _, _, exec_incWord hstrict h, addRule_addWith _ 1#16 false s.flags, rfl,
      State.writeE16_flags .., changed_setFlags_writeE16 ..⟩
  · exact ⟨decTo16 o s, _, _, exec_decWord hstrict h, subRule_subWith _ 1#16 false s.flags, rfl,
      State.writeE16_flags .., changed_setFlags_writeE16 ..⟩

/-! ### NOT and NEG (R196, R197) -/

theorem not_eq_ofNat {w : Nat} (x : BitVec w) : ~~~x = BitVec.ofNat w (2 ^ w - 1 - x.toNat) := by
  rw [← BitVec.toNat_not, BitVec.ofNat_toNat, BitVec.setWidth_eq]

/-- Subtracting from 0 borrows unless the operand is 0. -/
theorem subWith_zero_cf {w : Nat} (x : BitVec w) (f : Flags) : (subWith 0#w x false f).2.cf = decide (x.toNat ≠ 0) := by
  rw [Bool.eq_iff_iff, subWith_cf_iff, decide_eq_true_eq]
  simp [Nat.pos_iff_ne_zero]

/-- The one operand whose negation does not fit is the sign bit alone. -/
theorem subWith_zero_of {n : Nat} (x : BitVec (n + 1)) (f : Flags) :
    (subWith 0#(n + 1) x false f).2.of = decide (x.toNat = 2 ^ n) := by
  have hrange := toInt_range x
  have hlt := x.isLt
  have hread := x.toInt_eq_toNat_cond
  rw [Nat.pow_succ'] at hlt hread
  have hpow : (2 : Int) ^ n = (2 ^ n : Nat) := by push_cast; rfl
  have hnat : x.toNat = 2 ^ n ↔ x.toInt = -(2 ^ n) := by
    rw [hpow, hread]
    split <;> push_cast <;> omega
  rw [Bool.eq_iff_iff, subWith_of_iff, decide_eq_true_eq, hnat, BitVec.toInt_zero, Bool.toNat_false]
  omega

/-- A number has a 1 among its low `k` bits exactly when they are not all of a multiple of `2 ^ k`. -/
theorem exists_testBit_lt_iff (n k : Nat) : (∃ j < k, n.testBit j = true) ↔ n % 2 ^ k ≠ 0 := by
  constructor
  · rintro ⟨j, hj, hbit⟩ hzero
    have : (n % 2 ^ k).testBit j = true := by simp [Nat.testBit_mod_two_pow, hj, hbit]
    simp [hzero] at this
  · intro hne
    obtain ⟨j, hj⟩ := Nat.exists_testBit_of_ne_zero hne
    rw [Nat.testBit_mod_two_pow, Bool.and_eq_true, decide_eq_true_eq] at hj
    exact ⟨j, hj⟩

theorem subWith_zero_fst {w : Nat} (x : BitVec w) (f : Flags) : (subWith 0#w x false f).1 = -x := by
  simp [subWith, BitVec.ofInt_neg]

/-- Negation complements the bits above the lowest 1, so bit 4 of a word and its negation differ when the low nibble has a 1. -/
theorem subWith_zero_af {w : Nat} (hw : 4 < w) (x : BitVec w) (f : Flags) :
    (subWith 0#w x false f).2.af = decide (x.toNat % 16 ≠ 0) := by
  have hnibble : (∃ j < 4, x.getLsbD j = true) ↔ x.toNat % 16 ≠ 0 := exists_testBit_lt_iff x.toNat 4
  show (0#w ^^^ x ^^^ (subWith 0#w x false f).1).getLsbD 4 = _
  rw [subWith_zero_fst, BitVec.zero_xor, BitVec.getLsbD_xor, BitVec.getLsbD_neg, decide_eq_true hw, Bool.true_and,
    ← Bool.xor_assoc, Bool.xor_self, Bool.false_xor]
  exact decide_eq_decide.2 hnibble

@[simp] theorem negTo8_flags (dst : Operand Reg8) (s : State) :
    (negTo8 dst s).flags = (subWith 0#8 (s.readE8 dst) false s.flags).2 := State.writeE8_flags ..

@[simp] theorem negTo16_flags (dst : Operand Reg16) (s : State) :
    (negTo16 dst s).flags = (subWith 0#16 (s.readE16 dst) false s.flags).2 := State.writeE16_flags ..

theorem changed_notTo8 (dst : Operand Reg8) (s : State) :
    Changed ((Changes.keep s).putE8 dst (BitVec.ofNat 8 (0xFF - (s.readE8 dst).toNat))) s (notTo8 dst s) := by
  rw [show BitVec.ofNat 8 (0xFF - _) = ~~~(s.readE8 dst) from (not_eq_ofNat _).symm]
  exact (changed_keep s).writeE8 rfl dst _

theorem changed_notTo16 (dst : Operand Reg16) (s : State) :
    Changed ((Changes.keep s).putE16 s.cfg.arch dst (BitVec.ofNat 16 (0xFFFF - (s.readE16 dst).toNat))) s (notTo16 dst s) := by
  rw [show BitVec.ofNat 16 (0xFFFF - _) = ~~~(s.readE16 dst) from (not_eq_ofNat _).symm]
  exact (changed_keep s).writeE16 rfl dst _

/-- Settles O29: NOT writes the complement alone; NEG has the rule of subtraction, whose flags are read off for the operand 0. -/
theorem notAndNeg : Obligations.NotAndNeg := by
  intro s hstrict
  have run (op : Byte) (t : State) : s.tier2 op t = .next t := State.tier2_of_not_strict hstrict op t
  refine ⟨fun e => ?_, fun e => ?_, fun e => ?_, fun e => ?_⟩
  · exact ⟨_, run 0xF6 _, changed_notTo8 (resolve s e) s, State.writeE8_flags ..⟩
  · exact ⟨_, run 0xF7 _, changed_notTo16 (resolve s e) s, State.writeE16_flags ..⟩
  · refine ⟨negTo8 (resolve s e) s, (subWith 0#8 (s.readE8 (resolve s e)) false s.flags).1, run 0xF6 _, ?_⟩
    rw [negTo8_flags]
    exact ⟨subRule_subWith 0#8 _ false _, subWith_other .., subWith_zero_cf .., subWith_zero_of .., subWith_zero_af (by decide) ..,
      changed_setFlags_writeE8 ..⟩
  · refine ⟨negTo16 (resolve s e) s, (subWith 0#16 (s.readE16 (resolve s e)) false s.flags).1, run 0xF7 _, ?_⟩
    rw [negTo16_flags]
    exact ⟨subRule_subWith 0#16 _ false _, subWith_other .., subWith_zero_cf .., subWith_zero_of .., subWith_zero_af (by decide) ..,
      changed_setFlags_writeE16 ..⟩

end Sys2Proof.Machine
end

section
/-! PROOFS of the statements of 42_bcd_adjust.md: the two conditions of R221 and the adjusted values over integers, and the frame each
group of adjusts shares. -/

open Sys2Proof.Claims

namespace Sys2Proof.Machine

/-! ### The conditions (R221) -/

theorem and_0x0F_toNat (b : Byte) : (b &&& 0x0F#8).toNat = b.toNat % 16 := by
  rw [BitVec.toNat_and]
  exact Nat.and_two_pow_sub_one_eq_mod b.toNat 4

theorem bcdLow_eq (al : Byte) (f : Flags) : bcdLow al f = (decide (9 < al.toNat % 16) || f.af) := by
  rw [← and_0x0F_toNat]
  rfl

theorem bcdHigh_eq (al : Byte) (f : Flags) : bcdHigh al f = (decide (0x99 < al.toNat) || f.cf) := rfl

/-! ### DAA and DAS (R222, R223) -/

theorem ite_add_toNat (c : Bool) (x k : Byte) :
    (if c then x + k else x).toNat = (x.toNat + if c then k.toNat else 0) % 256 := by
  cases c with
  | false => exact (Nat.mod_eq_of_lt x.isLt).symm
  | true => exact BitVec.toNat_add x k

theorem sub_toNat_eq_emod (x k : Byte) : ((x - k).toNat : Int) = ((x.toNat : Int) - k.toNat) % 256 := by
  have hk := k.isLt
  rw [BitVec.toNat_sub]
  omega

theorem ite_sub_toNat (c : Bool) (x k : Byte) :
    ((if c then x - k else x).toNat : Int) = ((x.toNat : Int) - if c then (k.toNat : Int) else 0) % 256 := by
  cases c with
  | false =>
    have hx := x.isLt
    show (x.toNat : Int) = (x.toNat - 0) % 256
    omega
  | true => exact sub_toNat_eq_emod x k

theorem daaWith_toNat (al : Byte) (f : Flags) : (daaWith al f).1.toNat =
    (al.toNat + (if bcdLow al f then 0x06 else 0) + (if bcdHigh al f then 0x60 else 0)) % 256 := by
  rw [daaWith, ite_add_toNat, ite_add_toNat, Nat.mod_add_mod]
  rfl

theorem dasWith_toNat (al : Byte) (f : Flags) : ((dasWith al f).1.toNat : Int) =
    ((al.toNat : Int) - (if bcdLow al f then 0x06 else 0) - (if bcdHigh al f then 0x60 else 0)) % 256 := by
  rw [dasWith, ite_sub_toNat, ite_sub_toNat, Int.emod_sub_emod]
  rfl

theorem changed_bcdAdjust (adjust : Byte → Flags → Byte × Flags) (s : State) :
    Changed ((Changes.keep s).putE8 (.register .al) (adjust (s.reg8 .al) s.flags).1) s (bcdAdjust adjust s) :=
  ((changed_keep s).setReg8 .al _).setFlags _

/-- Settles O30: the model's two conditions are R221's, and each adjust is its steps of 6 and 0x60 taken modulo 256. -/
theorem decimalAdjust : Obligations.DecimalAdjust := by
  refine ⟨rfl, rfl, fun s => ?_⟩
  intro al c1 c2
  have hlow : bcdLow (s.reg8 .al) s.flags = c1 := bcdLow_eq ..
  have hhigh : bcdHigh (s.reg8 .al) s.flags = c2 := bcdHigh_eq ..
  constructor
  · refine ⟨bcdAdjust daaWith s, _, rfl, ?_, hlow, hhigh, rfl, szpRule_setSzp s.flags _, rfl, changed_bcdAdjust daaWith s⟩
    rw [← hlow, ← hhigh]
    exact daaWith_toNat ..
  · refine ⟨bcdAdjust dasWith s, _, rfl, ?_, hlow, hhigh, rfl, szpRule_setSzp s.flags _, rfl, changed_bcdAdjust dasWith s⟩
    rw [← hlow, ← hhigh]
    exact dasWith_toNat ..

/-! ### AAA and AAS (R224, R225) -/

/-- AX written, flags and three draws: the frame of AAA, AAS, AAM and AAD. -/
theorem changed_ax_flags_draws (s : State) (ax : Word) (f : Flags) :
    Changed { (Changes.keep s).putE16 s.cfg.arch (.register .ax) ax with draws := 3 } s
      (((s.setReg16 .ax ax).setFlags f).tookDraws 3) :=
  (((changed_keep s).setReg16 .ax _).setFlags _).tookDraws 3

theorem aaaAx_toNat (ax : Word) (f : Flags) : (aaaAx ax f).toNat =
    if bcdLow (loByte ax) f then ((hiByte ax).toNat + 1) % 256 * 256 + ((loByte ax).toNat + 6) % 16
    else (hiByte ax).toNat * 256 + (loByte ax).toNat % 16 := by
  unfold aaaAx
  split
  · rw [wordOf_toNat, and_0x0F_toNat, BitVec.toNat_add, BitVec.toNat_add, Nat.mod_mod_of_dvd _ (by decide)]
    rfl
  · rw [wordOf_toNat, and_0x0F_toNat]

theorem aasAx_toNat (ax : Word) (f : Flags) : ((aasAx ax f).toNat : Int) =
    if bcdLow (loByte ax) f then (((hiByte ax).toNat : Int) - 1) % 256 * 256 + (((loByte ax).toNat : Int) - 6) % 16
    else ((hiByte ax).toNat : Int) * 256 + (loByte ax).toNat % 16 := by
  unfold aasAx
  split
  · rw [wordOf_toNat, and_0x0F_toNat]
    push_cast
    rw [sub_toNat_eq_emod, sub_toNat_eq_emod, Int.emod_emod_of_dvd _ (by decide)]
    rfl
  · rw [wordOf_toNat, and_0x0F_toNat]
    exact Int.natCast_add _ _

/-- Settles O31: AL and AH are adjusted each in its own byte, and the flags are R221's low condition and the three draws. -/
theorem aaaAndAasAsciiAdjust : Obligations.AsciiAdjust := by
  refine ⟨rfl, rfl, fun s => ?_⟩
  intro al ah c1 f
  have hlow : bcdLow (s.reg8 .al) s.flags = c1 := bcdLow_eq ..
  have hflags : asciiFlags (s.reg8 .al) s.flags (s.draw 0) (s.draw 1) (s.draw 2) = f := by rw [asciiFlags, hlow]
  constructor
  · refine ⟨asciiAdjust aaaAx s, _, rfl, ?_, hflags, changed_ax_flags_draws ..⟩
    rw [← hlow]
    exact aaaAx_toNat ..
  · refine ⟨asciiAdjust aasAx s, _, rfl, ?_, hflags, changed_ax_flags_draws ..⟩
    rw [← hlow]
    exact aasAx_toNat ..

/-! ### AAM and AAD (R230, R231) -/

theorem exec_aam {s : State} (hstrict : s.cfg.strictSourceSet = false) (imm : Byte) :
    exec (.aam imm) s = .next (if imm = 0#8 then s.divideFault else asciiAfterMultiply imm s) :=
  State.tier2_of_not_strict hstrict 0xD4 _

theorem exec_aad {s : State} (hstrict : s.cfg.strictSourceSet = false) (imm : Byte) :
    exec (.aad imm) s = .next (asciiBeforeDivide imm s) :=
  State.tier2_of_not_strict hstrict 0xD5 _

theorem szpRule_asciiMulFlags (al : Byte) (s : State) : SzpRule 8 al.toNat (asciiMulFlags al s) :=
  szpRule_setSzp s.flags al

/-- Settles O32: a zero immediate is the interrupt entry of vector 0; AAM's quotient and remainder fit their bytes, and AAD's sum is
wrapped to AL. -/
theorem asciiMultiplyAndDivideAdjust : Obligations.AsciiMultiplyAndDivideAdjust := by
  intro s imm hstrict al ah
  refine ⟨fun hzero => ?_, fun hne => ?_, ?_⟩
  · have himm : imm = 0#8 := BitVec.eq_of_toNat_eq hzero
    refine ⟨s.interrupt 0, ?_, changed_interrupt s 0, State.interrupt_flags s 0⟩
    rw [exec_aam hstrict, if_pos himm]
    rfl
  · have himm : imm ≠ 0#8 := fun h => hne (congrArg BitVec.toNat h)
    have hrem : (s.reg8 .al % imm).toNat = al % imm.toNat := BitVec.toNat_umod
    refine ⟨asciiAfterMultiply imm s, _, ?_, ?_, ?_, rfl, rfl, rfl, rfl, changed_ax_flags_draws ..⟩
    · rw [exec_aam hstrict, if_neg himm]
    · rw [wordOf_toNat, hrem, BitVec.toNat_udiv]
    · rw [← hrem]
      exact szpRule_asciiMulFlags _ s
  · have hsum : (s.reg8 .al + s.reg8 .ah * imm).toNat = (al + ah * imm.toNat) % 256 := by
      rw [BitVec.toNat_add, BitVec.toNat_mul, Nat.add_mod_mod]
    refine ⟨asciiBeforeDivide imm s, _, exec_aad hstrict imm, ?_, ?_, rfl, rfl, rfl, rfl, changed_ax_flags_draws ..⟩
    · rw [wordOf_toNat, hsum]
      exact Nat.zero_add _
    · rw [← hsum]
      exact szpRule_asciiMulFlags _ s

end Sys2Proof.Machine
end

section
/-! PROOFS of the statements of 43_shift_rotate.md: the one-bit step against the integer step of R246 to R252 at every width, its
iteration, the flags of R245, and the instructions of the family as uses of the common execution. -/

open Sys2Proof.Claims

namespace Sys2Proof.Machine

/-! ### The one-bit step over integers (R246 to R252) -/

theorem testBit_toNat_top {w : Nat} (x : BitVec w) : x.toNat.testBit (w - 1) = x.msb := by
  rw [BitVec.testBit_toNat, BitVec.msb_eq_getLsbD_last]

theorem bitLow_toNat {w : Nat} (hw : 0 < w) (b : Bool) : (bitLow w b).toNat = b.toNat := by
  cases b with
  | false => exact BitVec.toNat_zero
  | true => exact Nat.mod_eq_of_lt (Nat.one_lt_two_pow (by omega))

theorem bitTop_toNat {w : Nat} (hw : 0 < w) (b : Bool) : (bitTop w b).toNat = b.toNat <<< (w - 1) := by
  cases b with
  | false => simp [bitTop]
  | true => simp [bitTop, BitVec.toNat_twoPow_of_lt (show w - 1 < w by omega), Nat.shiftLeft_eq]

/-- A left-moving step: the bit that moves in is below the mask of R246. -/
theorem shiftLeft_or_bitLow_toNat {w : Nat} (hw : 0 < w) (x : BitVec w) (b : Bool) :
    ((x <<< 1) ||| bitLow w b).toNat = ((x.toNat <<< 1) ||| b.toNat) &&& (2 ^ w - 1) := by
  rw [BitVec.toNat_or, BitVec.toNat_shiftLeft, Nat.and_two_pow_sub_one_eq_mod, Nat.or_mod_two_pow, ← bitLow_toNat hw,
    Nat.mod_eq_of_lt (bitLow w b).isLt]

/-- A right-moving step: the bit that moves in is the top bit. -/
theorem ushiftRight_or_bitTop_toNat {w : Nat} (hw : 0 < w) (x : BitVec w) (b : Bool) :
    ((x >>> 1) ||| bitTop w b).toNat = (x.toNat >>> 1) ||| (b.toNat <<< (w - 1)) := by
  rw [BitVec.toNat_or, BitVec.toNat_ushiftRight, bitTop_toNat hw]

theorem and_two_pow_top {w : Nat} (x : BitVec w) : x.toNat &&& 2 ^ (w - 1) = x.msb.toNat <<< (w - 1) := by
  rw [Nat.and_two_pow, testBit_toNat_top, Nat.shiftLeft_eq]

/-- A step over words is the rule's step over integers. -/
theorem bitStep_toNat {w : Nat} (hw : 0 < w) (op : ShiftOp) (x : BitVec w) (cf : Bool) :
    bitStep w op (x.toNat, cf) = ((shiftStep op x cf).1.toNat, (shiftStep op x cf).2) := by
  cases op with
  | rol | rcl => simp only [bitStep, shiftStep, shiftLeft_or_bitLow_toNat hw, testBit_toNat_top]
  | ror | rcr => simp only [bitStep, shiftStep, ushiftRight_or_bitTop_toNat hw, BitVec.testBit_toNat]
  | shl => simp only [bitStep, shiftStep, BitVec.toNat_shiftLeft, Nat.and_two_pow_sub_one_eq_mod, testBit_toNat_top]
  | shr => simp only [bitStep, shiftStep, BitVec.toNat_ushiftRight, BitVec.testBit_toNat]
  | sar => simp only [bitStep, shiftStep, ushiftRight_or_bitTop_toNat hw, and_two_pow_top, BitVec.testBit_toNat]

/-- R245: the steps are the rule's step iterated. -/
theorem iterate_bitStep_toNat {w : Nat} (hw : 0 < w) (op : ShiftOp) (n : Nat) (x : BitVec w) (cf : Bool) :
    (bitStep w op)^[n] (x.toNat, cf) = ((shiftSteps op n x cf).1.toNat, (shiftSteps op n x cf).2) := by
  induction n generalizing x cf with
  | zero => rfl
  | succ n ih => rw [Function.iterate_succ_apply, bitStep_toNat hw, ih, shiftSteps]

/-! ### The flags (R245) -/

theorem shiftOf_eq_bitOf {w : Nat} (hw : 1 < w) (op : ShiftOp) (x : BitVec w) (cf : Bool) :
    shiftOf op x cf = bitOf w op x.toNat cf := by
  have hnext : x.getMsbD 1 = x.toNat.testBit (w - 2) := by
    simp [BitVec.getMsbD, BitVec.testBit_toNat, hw, Nat.sub_sub]
  cases op with
  | rol | rcl | shl => simp only [shiftOf, bitOf, testBit_toNat_top]
  | ror | rcr | shr | sar => simp only [shiftOf, bitOf, testBit_toNat_top, hnext, BitVec.msb]

/-- R245: CF is the bit that left last, OF the one-bit formula or a draw; only the shifts write SF, ZF, PF and draw AF. -/
theorem shiftRule_shiftFlags {w : Nat} (hw : 1 < w) (op : ShiftOp) (n : Nat) (x : BitVec w) (s : State) :
    ShiftRule w op n x.toNat s (shiftSteps op n x s.flags.cf).1.toNat
      (shiftFlags op n (shiftSteps op n x s.flags.cf).1 (shiftSteps op n x s.flags.cf).2 s.flags (s.draw 0) (s.draw 1)) := by
  have hsteps := iterate_bitStep_toNat (by omega) op n x s.flags.cf
  generalize shiftSteps op n x s.flags.cf = out at hsteps ⊢
  have hcf : (shiftFlags op n out.1 out.2 s.flags (s.draw 0) (s.draw 1)).cf = out.2 := by cases op <;> rfl
  have hof : (shiftFlags op n out.1 out.2 s.flags (s.draw 0) (s.draw 1)).of =
      if n = 1 then shiftOf op out.1 out.2 else s.draw 0 := by cases op <;> rfl
  refine ⟨?_, ?_, shiftFlags_other .., ?_⟩
  · rw [hcf, hsteps]
  · rw [hof, hcf, shiftOf_eq_bitOf hw]
  · cases op with
    | rol | ror | rcl | rcr => exact ⟨rfl, rfl, rfl, rfl⟩
    | shl | shr | sar => exact ⟨szpRule_setSzp s.flags out.1, rfl⟩

/-! ### Common execution (R243 to R245) -/

theorem Changes.putE8_withDraws (c : Changes) (n : Nat) (o : Operand Reg8) (v : Byte) :
    ({ c with draws := n } : Changes).putE8 o v = { c.putE8 o v with draws := n } := by
  cases o <;> rfl

theorem Changes.putE16_withDraws (c : Changes) (n : Nat) (arch : Arch) (o : Operand Reg16) (v : Word) :
    ({ c with draws := n } : Changes).putE16 arch o v = { c.putE16 arch o v with draws := n } := by
  cases o <;> rfl

/-- Flags written and draws taken. -/
theorem changed_setFlags_tookDraws (s : State) (f : Flags) (n : Nat) :
    Changed { Changes.keep s with draws := n } s ((s.setFlags f).tookDraws n) := by
  have h := ((changed_keep s).setFlags f).tookDraws n
  rwa [show (Changes.keep s).draws + n = n from Nat.zero_add n] at h

theorem shiftTo8_zero (op : ShiftOp) (dst : Operand Reg8) (s : State) : shiftTo8 op 0 dst s = s := if_pos rfl

theorem shiftTo16_zero (op : ShiftOp) (dst : Operand Reg16) (s : State) : shiftTo16 op 0 dst s = s := if_pos rfl

/-- An instruction that is the common execution on a byte has the rule's result, flags and frame. -/
theorem shiftByte_of_exec {op : ShiftOp} {n : Nat} (hn : n ≠ 0) {i : Instr} {dst : Operand Reg8} {s : State}
    (h : exec i s = .next (shiftTo8 op n dst s)) : ShiftByte op n i dst s := by
  rw [shiftTo8, if_neg hn] at h
  refine ⟨_, (shiftSteps op n (s.readE8 dst) s.flags.cf).1, h, ?_, ?_⟩
  · rw [State.writeE8_flags]
    exact shiftRule_shiftFlags (by decide) op n (s.readE8 dst) s
  · rw [← Changes.putE8_withDraws]
    exact (changed_setFlags_tookDraws ..).writeE8 rfl dst _

/-- The same on a word. -/
theorem shiftWord_of_exec {op : ShiftOp} {n : Nat} (hn : n ≠ 0) {i : Instr} {dst : Operand Reg16} {s : State}
    (h : exec i s = .next (shiftTo16 op n dst s)) : ShiftWord op n i dst s := by
  rw [shiftTo16, if_neg hn] at h
  refine ⟨_, (shiftSteps op n (s.readE16 dst) s.flags.cf).1, h, ?_, ?_⟩
  · rw [State.writeE16_flags]
    exact shiftRule_shiftFlags (by decide) op n (s.readE16 dst) s
  · rw [← Changes.putE16_withDraws]
    exact (changed_setFlags_tookDraws ..).writeE16 rfl dst _

/-! ### The seven operations form by form -/

theorem exec_turnsEb1 (e : Rm Reg8) (s : State) :
    ∀ p ∈ turnsEb1, exec (p.2 e) s = .next (shiftTo8 p.1 1 (resolve s e) s) := by
  simp only [turnsEb1, List.forall_mem_cons]
  exact ⟨rfl, rfl, rfl, rfl, rfl, rfl, rfl, nofun⟩

theorem exec_turnsEv1 (e : Rm Reg16) (s : State) :
    ∀ p ∈ turnsEv1, exec (p.2 e) s = .next (shiftTo16 p.1 1 (resolve s e) s) := by
  simp only [turnsEv1, List.forall_mem_cons]
  exact ⟨rfl, rfl, rfl, rfl, rfl, rfl, rfl, nofun⟩

theorem exec_turnsEbCl (e : Rm Reg8) (s : State) :
    ∀ p ∈ turnsEbCl, exec (p.2 e) s = .next (shiftTo8 p.1 (countOfCl s.cfg.arch 8 (s.reg8 .cl)) (resolve s e) s) := by
  simp only [turnsEbCl, List.forall_mem_cons]
  exact ⟨rfl, rfl, rfl, rfl, rfl, rfl, rfl, nofun⟩

theorem exec_turnsEvCl (e : Rm Reg16) (s : State) :
    ∀ p ∈ turnsEvCl, exec (p.2 e) s = .next (shiftTo16 p.1 (countOfCl s.cfg.arch 16 (s.reg8 .cl)) (resolve s e) s) := by
  simp only [turnsEvCl, List.forall_mem_cons]
  exact ⟨rfl, rfl, rfl, rfl, rfl, rfl, rfl, nofun⟩

/-- R243. -/
theorem countOfCl_eq (arch : Arch) (w : Nat) (cl : Byte) :
    countOfCl arch w cl = if arch = .a8086 then cl.toNat else cl.toNat % w := by
  cases arch <;> rfl

/-- Settles O33: in every form an operation is the common execution with the form's count. -/
theorem shiftsAndRotates : Obligations.ShiftsAndRotates := by
  refine ⟨fun _ _ h e s => shiftByte_of_exec one_ne_zero (exec_turnsEb1 e s _ h),
    fun _ _ h e s => shiftWord_of_exec one_ne_zero (exec_turnsEv1 e s _ h), fun op i h e s => ?_, fun op i h e s => ?_⟩
  · have hexec := exec_turnsEbCl e s _ h
    rw [countOfCl_eq] at hexec
    refine ⟨fun hzero => ?_, fun hn => shiftByte_of_exec hn hexec⟩
    rwa [hzero, shiftTo8_zero] at hexec
  · have hexec := exec_turnsEvCl e s _ h
    rw [countOfCl_eq] at hexec
    refine ⟨fun hzero => ?_, fun hn => shiftWord_of_exec hn hexec⟩
    rwa [hzero, shiftTo16_zero] at hexec

/-! ### SAR as a division (R252) -/

theorem getLsbD_bitTop {w i : Nat} (hi : i < w) (b : Bool) : (bitTop w b).getLsbD i = (b && decide (i = w - 1)) := by
  cases b with
  | false => simp [bitTop]
  | true => simp [bitTop, hi]

theorem shiftStep_sar {w : Nat} (x : BitVec w) (cf : Bool) : (shiftStep .sar x cf).1 = x.sshiftRight 1 := by
  refine BitVec.eq_of_getLsbD_eq fun i hi => ?_
  rw [shiftStep, BitVec.getLsbD_or, BitVec.getLsbD_ushiftRight, getLsbD_bitTop hi, BitVec.getLsbD_sshiftRight]
  by_cases htop : i = w - 1
  · rw [BitVec.getLsbD_of_ge x (1 + i) (by omega), if_neg (by omega), decide_eq_true htop]
    simp [hi]
  · rw [if_pos (by omega), decide_eq_false htop]
    simp [hi]

theorem shiftSteps_sar {w : Nat} (n : Nat) (x : BitVec w) (cf : Bool) : (shiftSteps .sar n x cf).1 = x.sshiftRight n := by
  induction n generalizing x cf with
  | zero => exact (BitVec.sshiftRight_zero ..).symm
  | succ n ih => rw [shiftSteps, ih, shiftStep_sar, ← BitVec.sshiftRight_add, Nat.add_comm]

/-- Settles O34: the steps of SAR are one arithmetic shift, which rounds down for every count and at every width. -/
theorem sarRoundsDown : Obligations.SarRoundsDown := by
  intro w _ x cf n _
  rw [shiftSteps_sar, BitVec.toInt_sshiftRight, Int.shiftRight_eq_div_pow]
  norm_cast

end Sys2Proof.Machine
end

section
/-! PROOFS of the statements of 44_mul_div.md: products and dividends of double width read from their halves, the two divisions of
integers at every width, and the frame that the multiplications and the divisions of each width share. -/

open Sys2Proof.Claims

namespace Sys2Proof.Machine

/-! ### Frames and faults (R271 to R279, R503) -/

/-- A multiplication changes what its register writes change, and takes four draws. -/
theorem Changed.withMulFlags {c : Changes} {s t : State} (h : Changed c s t) (high : Bool) :
    Changed { c with draws := c.draws + 4 } s (withMulFlags high t) := (h.setFlags _).tookDraws 4

/-- A division that does not fault changes what its register writes change, and takes six draws. -/
theorem Changed.withDivFlags {c : Changes} {s t : State} (h : Changed c s t) :
    Changed { c with draws := c.draws + 6 } s (withDivFlags t) := (h.setFlags _).tookDraws 6

/-- The frame of MUL and IMUL of a byte. -/
theorem changed_withMulFlags_ax (s : State) (ax : Word) (high : Bool) :
    Changed { Changes.keep s with gpr := s.gpr.set .ax ax, draws := 4 } s (withMulFlags high (s.setReg16 .ax ax)) :=
  ((changed_keep s).setReg16 .ax ax).withMulFlags high

/-- The frame of MUL and IMUL of a word. -/
theorem changed_withMulFlags_dxAx (s : State) (ax dx : Word) (high : Bool) :
    Changed { Changes.keep s with gpr := (s.gpr.set .ax ax).set .dx dx, draws := 4 } s
      (withMulFlags high ((s.setReg16 .ax ax).setReg16 .dx dx)) :=
  (((changed_keep s).setReg16 .ax ax).setReg16 .dx dx).withMulFlags high

theorem changed_divideInto8_some (q r : Byte) (s : State) :
    Changed { Changes.keep s with gpr := s.gpr.set .ax (wordOf r q), draws := 6 } s (divideInto8 (some (q, r)) s) :=
  ((changed_keep s).setReg16 .ax _).withDivFlags

theorem changed_divideInto16_some (q r : Word) (s : State) :
    Changed { Changes.keep s with gpr := (s.gpr.set .ax q).set .dx r, draws := 6 } s (divideInto16 (some (q, r)) s) :=
  (((changed_keep s).setReg16 .ax q).setReg16 .dx r).withDivFlags

/-- R503: the divide fault is the entry through vector 0 and nothing else. -/
theorem enters_of_divideFault {i : Instr} {s : State} (h : exec i s = .next s.divideFault) : Enters 0 i s :=
  ⟨s.interrupt 0, h, changed_interrupt s 0, State.interrupt_flags s 0⟩

/-- R24: AL and AH written one after the other are AX written as a whole. -/
theorem put8_al_ah (s : State) (q r : Byte) : put8 (put8 s.gpr .al q) .ah r = s.gpr.set .ax (wordOf r q) := by
  rw [← setReg8_gpr, ← setReg8_gpr]
  show s.gpr.set .ax (wordOf r (loByte (wordOf _ q))) = _
  rw [loByte_wordOf]

/-! ### Values of double width (R270) -/

/-- A signed double word is its upper half, signed, and its lower half, unsigned. -/
theorem words_toInt (hi lo : Word) : (hi ++ lo).toInt = hi.toInt * 65536 + lo.toNat := by
  rw [BitVec.toInt_append, if_neg (by decide), Int.mul_comm]
  rfl

theorem words_toNat (hi lo : Word) : (hi ++ lo).toNat = hi.toNat * 65536 + lo.toNat := by
  rw [BitVec.toNat_append, ← Nat.shiftLeft_add_eq_or_of_lt lo.isLt, Nat.shiftLeft_eq]

/-- A 32-bit value is its two words put together. -/
theorem words_extractLsb' (x : BitVec 32) : x.extractLsb' 16 16 ++ x.extractLsb' 0 16 = x :=
  (BitVec.extractLsb'_append_extractLsb'_eq_extractLsb' (start₂ := 16) (start₁ := 0) rfl).trans BitVec.extractLsb'_eq_self

theorem toNat_ofNat_of_lt {w n : Nat} (h : n < 2 ^ w) : (BitVec.ofNat w n).toNat = n :=
  (BitVec.toNat_ofNat ..).trans (Nat.mod_eq_of_lt h)

/-! ### MUL and IMUL (R271 to R274) -/

/-- R273: a word is the sign extension of its low byte exactly when it is in the range of a signed byte. -/
theorem bne_sext8_loByte (p : Word) : (p != sext8 (loByte p)) = decide (p.toInt < -128 ∨ 127 < p.toInt) := by
  have hext : (sext8 (loByte p)).toInt = p.toInt.bmod 256 := by
    rw [sext8, BitVec.toInt_signExtend_of_le (by decide), loByte, BitVec.toInt_extractLsb', BitVec.toInt_eq_toNat_bmod]
    exact (Int.bmod_bmod_of_dvd (by decide)).symm
  rw [Bool.eq_iff_iff, bne_iff_ne, ne_eq, ← BitVec.toInt_inj, hext, decide_eq_true_eq, Int.bmod_def]
  omega

/-- The product of two signed values of width `w` is a signed value of width `2 * w`. -/
theorem toInt_ofInt_mul {w : Nat} (hw : 0 < w) (x y : BitVec w) :
    (BitVec.ofInt (w * 2) (x.toInt * y.toInt)).toInt = x.toInt * y.toInt := by
  have hlt : (2 : Int) ^ (w * 2 - 2) < 2 ^ (w * 2 - 1) := Int.pow_lt_pow_of_lt (by decide) (by omega)
  have hlo := BitVec.le_toInt_mul_toInt (x := x) (y := y)
  have hhi := BitVec.toInt_mul_toInt_le (x := x) (y := y)
  exact BitVec.toInt_ofInt_eq_self (by omega) (by omega) (by omega)

/-- Settles O35: a product of two values of the operands' width fits the double width, so its two halves hold it exactly. -/
theorem multiplyIsExact : Obligations.MultiplyIsExact := by
  intro s f
  refine ⟨fun e => ?_, fun e => ?_, fun e => ?_, fun e => ?_⟩
  · have hexec : exec (.mulEb e) s = .next (withMulFlags _ (s.setReg16 .ax _)) := rfl
    have hax := toNat_ofNat_of_lt (BitVec.toNat_mul_toNat_lt (x := s.reg8 .al) (y := s.readE8 (resolve s e)))
    refine ⟨_, _, hexec, hax, ?_, changed_withMulFlags_ax ..⟩
    rw [hax]
    rfl
  · have hexec : exec (.mulEv e) s = .next (withMulFlags _ ((s.setReg16 .ax _).setReg16 .dx _)) := rfl
    have hfits := BitVec.toNat_mul_toNat_lt (x := s.reg16 .ax) (y := s.readE16 (resolve s e))
    have hdx := toNat_ofNat_of_lt (Nat.div_lt_of_lt_mul hfits : _ / 65536 < 2 ^ 16)
    refine ⟨_, _, _, hexec, ?_, ?_, changed_withMulFlags_dxAx ..⟩
    · rw [hdx, BitVec.toNat_ofNat]
      exact Nat.div_add_mod' _ _
    · rw [hdx]
      rfl
  · have hexec : exec (.imulEb e) s = .next (withMulFlags _ (s.setReg16 .ax _)) := rfl
    refine ⟨_, _, hexec, toInt_ofInt_mul (w := 8) (by decide) _ _, ?_, changed_withMulFlags_ax ..⟩
    rw [← bne_sext8_loByte]
    rfl
  · have hexec : exec (.imulEv e) s = .next (withMulFlags _ ((s.setReg16 .ax _).setReg16 .dx _)) := rfl
    have hproduct := toInt_ofInt_mul (by decide) (s.reg16 .ax) (s.readE16 (resolve s e))
    rw [← words_extractLsb' (BitVec.ofInt _ _), words_toInt] at hproduct
    refine ⟨_, _, _, hexec, hproduct, ?_, changed_withMulFlags_dxAx ..⟩
    rw [hproduct]
    rfl

/-! ### Division of integers (R275 to R280) -/

theorem udivide_of_fault {w n d : Nat} (h : d = 0 ∨ 2 ^ w - 1 < n / d) : udivide w n d = none := by
  unfold udivide
  split
  · rfl
  · exact if_pos (h.resolve_left ‹_›)

/-- R275, R276: a quotient that fits is left exactly, and so is the remainder, which is less than the divisor. -/
theorem udivide_of_fits {w n : Nat} {x : BitVec w} (h : ¬ (x.toNat = 0 ∨ 2 ^ w - 1 < n / x.toNat)) :
    ∃ q r : BitVec w, udivide w n x.toNat = some (q, r) ∧ q.toNat = n / x.toNat ∧ r.toNat = n % x.toNat := by
  obtain ⟨hne, hquot⟩ := not_or.1 h
  have hrem := Nat.mod_lt n (Nat.pos_of_ne_zero hne)
  have hx := x.isLt
  refine ⟨BitVec.ofNat w (n / x.toNat), BitVec.ofNat w (n % x.toNat), ?_, toNat_ofNat_of_lt (by omega), toNat_ofNat_of_lt (by omega)⟩
  rw [udivide, if_neg hne, if_neg hquot]

theorem sdivide_of_fault {w : Nat} {n d : Int} (h : d = 0 ∨ n.tdiv d < -2 ^ (w - 1) ∨ 2 ^ (w - 1) - 1 < n.tdiv d) :
    sdivide w n d = none := by
  unfold sdivide
  split
  · rfl
  · exact if_pos (h.resolve_left ‹_›)

theorem natAbs_tmod_lt (n : Int) {d : Int} (hd : d ≠ 0) : (n.tmod d).natAbs < d.natAbs := by
  rw [Int.natAbs_tmod]
  exact Nat.mod_lt _ (Int.natAbs_pos.2 hd)

/-- The remainder of a division toward zero has the dividend's sign. -/
theorem tmod_sign (n d : Int) : n.tmod d = 0 ∨ (0 < n.tmod d ↔ 0 < n) := by
  have hsign := Int.sign_tmod n d
  split at hsign
  · exact .inl (Int.sign_eq_zero_iff_zero.1 hsign)
  · right
    rw [← Int.sign_eq_one_iff_pos, hsign, Int.sign_eq_one_iff_pos]

/-- R277, R278, R280: a quotient toward zero in the two's-complement range is left exactly, with the remainder of the dividend's sign. -/
theorem sdivide_of_fits {w : Nat} {n : Int} {x : BitVec w}
    (h : ¬ (x.toInt = 0 ∨ n.tdiv x.toInt < -2 ^ (w - 1) ∨ 2 ^ (w - 1) - 1 < n.tdiv x.toInt)) :
    ∃ q r : BitVec w, sdivide w n x.toInt = some (q, r) ∧ q.toInt = n.tdiv x.toInt ∧ n = q.toInt * x.toInt + r.toInt
      ∧ r.toInt.natAbs < x.toInt.natAbs ∧ (r.toInt = 0 ∨ (0 < r.toInt ↔ 0 < n)) := by
  obtain ⟨hne, hrange⟩ := not_or.1 h
  have hw : 0 < w := Nat.pos_of_ne_zero fun hzero => hne (BitVec.toInt_of_zero_length hzero x)
  have hlo := x.le_toInt
  have hhi := x.toInt_lt
  have hdiv := Int.tdiv_mul_add_tmod n x.toInt
  have habs := natAbs_tmod_lt n hne
  have hq : (BitVec.ofInt w (n.tdiv x.toInt)).toInt = n.tdiv x.toInt := BitVec.toInt_ofInt_eq_self hw (by omega) (by omega)
  have hr : (BitVec.ofInt w (n.tmod x.toInt)).toInt = n.tmod x.toInt := BitVec.toInt_ofInt_eq_self hw (by omega) (by omega)
  refine ⟨_, BitVec.ofInt w (n.tmod x.toInt), ?_, hq, ?_⟩
  · rw [sdivide, if_neg hne, ← sub_eq_of_eq_add' hdiv.symm]
    exact if_neg hrange
  · rw [hq, hr]
    exact ⟨hdiv.symm, habs, tmod_sign n x.toInt⟩

/-! ### DIV and IDIV (R275 to R280) -/

/-- Settles O36: what `udivide` answers, written to AX and to DX, or the divide fault. -/
theorem unsignedDivide : Obligations.UnsignedDivide := by
  intro s f
  refine ⟨fun e => ?_, fun e => ?_⟩
  · have hexec : exec (.divEb e) s = .next (divideInto8 (udivide 8 _ _) s) := rfl
    refine ⟨fun hfault => ?_, fun hfits => ?_⟩
    · rw [udivide_of_fault hfault] at hexec
      exact enters_of_divideFault hexec
    · obtain ⟨q, r, hsome, hq, hr⟩ := udivide_of_fits hfits
      rw [hsome] at hexec
      refine ⟨_, wordOf r q, hexec, ?_, rfl, changed_divideInto8_some q r s⟩
      rw [wordOf_toNat, hq, hr]
  · have hexec : exec (.divEv e) s = .next (divideInto16 (udivide 16 (dividend32 s).toNat _) s) := rfl
    rw [dividend32, words_toNat] at hexec
    refine ⟨fun hfault => ?_, fun hfits => ?_⟩
    · rw [udivide_of_fault hfault] at hexec
      exact enters_of_divideFault hexec
    · obtain ⟨q, r, hsome, hq, hr⟩ := udivide_of_fits hfits
      rw [hsome] at hexec
      exact ⟨_, q, r, hexec, hq, hr, rfl, changed_divideInto16_some q r s⟩

/-- Settles O37: what `sdivide` answers, written to AH and AL or to AX and DX, or the divide fault. -/
theorem signedDivide : Obligations.SignedDivide := by
  intro s f
  refine ⟨fun e => ?_, fun e => ?_⟩
  · have hexec : exec (.idivEb e) s = .next (divideInto8 (sdivide 8 _ _) s) := rfl
    refine ⟨fun hfault => ?_, fun hfits => ?_⟩
    · rw [sdivide_of_fault hfault] at hexec
      exact enters_of_divideFault hexec
    · obtain ⟨q, r, hsome, hq, hn, habs, hsign⟩ := sdivide_of_fits hfits
      rw [hsome] at hexec
      refine ⟨_, q, r, hexec, hq, hn, habs, hsign, rfl, ?_⟩
      rw [put8_al_ah]
      exact changed_divideInto8_some q r s
  · have hexec : exec (.idivEv e) s = .next (divideInto16 (sdivide 16 (dividend32 s).toInt _) s) := rfl
    rw [dividend32, words_toInt] at hexec
    refine ⟨fun hfault => ?_, fun hfits => ?_⟩
    · rw [sdivide_of_fault hfault] at hexec
      exact enters_of_divideFault hexec
    · obtain ⟨q, r, hsome, hq, hn, habs, hsign⟩ := sdivide_of_fits hfits
      rw [hsome] at hexec
      exact ⟨_, q, r, hexec, hq, hn, habs, hsign, rfl, changed_divideInto16_some q r s⟩

end Sys2Proof.Machine
end

section
/-! PROOFS of the statements of 45_data_transfer.md: what a destination write completes, the frame of an exchange and of a port access,
and the values of XLAT, CBW, CWD, IN and OUT as numbers. -/

open Sys2Proof.Claims

namespace Sys2Proof.Machine

/-! ### MOV (R300 to R311) -/

/-- An instruction that writes one byte operand and nothing else. -/
theorem completes_of_writeE8 {i : Instr} {c : State → Changes} {s : State} {o : Operand Reg8} {v : Byte}
    (hc : c s = (Changes.keep s).putE8 o v) (h : exec i s = .next (s.writeE8 o v)) : Completes i c s :=
  ⟨_, h, hc ▸ (changed_keep s).writeE8 rfl o v, State.writeE8_flags ..⟩

/-- An instruction that writes one word operand and nothing else. -/
theorem completes_of_writeE16 {i : Instr} {c : State → Changes} {s : State} {o : Operand Reg16} {v : Word}
    (hc : c s = (Changes.keep s).putE16 s.cfg.arch o v) (h : exec i s = .next (s.writeE16 o v)) : Completes i c s :=
  ⟨_, h, hc ▸ (changed_keep s).writeE16 rfl o v, State.writeE16_flags ..⟩

/-- Settles O38: every form is one operand write, but for the segment register as a destination. -/
theorem movWritesItsDestination : Obligations.MovWritesItsDestination := by
  intro s seg
  exact ⟨fun _ _ => completes_of_writeE8 rfl rfl, fun _ _ => completes_of_writeE16 rfl rfl,
    fun _ _ => completes_of_writeE8 rfl rfl, fun _ _ => completes_of_writeE16 rfl rfl,
    fun _ _ => completes_of_writeE16 rfl rfl, fun sr _ => ⟨_, rfl, (changed_keep s).setSreg sr _, rfl⟩,
    fun _ _ => completes_of_writeE8 rfl rfl, fun _ _ => completes_of_writeE16 rfl rfl,
    fun _ _ => completes_of_writeE8 rfl rfl, fun _ _ => completes_of_writeE16 rfl rfl,
    fun _ => completes_of_writeE8 rfl rfl, fun _ => completes_of_writeE16 rfl rfl,
    fun _ => completes_of_writeE8 rfl rfl, fun _ => completes_of_writeE16 rfl rfl⟩

/-! ### LEA (R308) -/

/-- Settles O39: the offset is that of O40, which no override changes. -/
theorem leaComputesTheOffset : Obligations.LeaComputesTheOffset := by
  intro s g m ea
  obtain ⟨-, hoff, -, -⟩ := (operandResolution s).2 m
  have hea : effectiveAddress s m = BitVec.ofInt 16 ea := hoff
  rw [← hea]
  exact ⟨_, rfl, (changed_keep s).setReg16 g _, rfl⟩

/-! ### XCHG (R312, R313) -/

/-- Both values are those of the state before either write. -/
theorem changed_exchange8 (o : Operand Reg8) (g : Reg8) (s : State) :
    Changed (((Changes.keep s).putE8 o (s.reg8 g)).putE8 (.register g) (s.readE8 o)) s (exchange8 o g s) :=
  ((changed_keep s).writeE8 rfl o _).setReg8 g _

theorem changed_exchange16 (o : Operand Reg16) (g : Reg16) (s : State) :
    Changed (((Changes.keep s).putE16 s.cfg.arch o (s.reg16 g)).putE16 s.cfg.arch (.register g) (s.readE16 o)) s
      (exchange16 o g s) :=
  ((changed_keep s).writeE16 rfl o _).setReg16 g _

theorem changed_exchangeAx (r : Reg16) (s : State) :
    Changed { Changes.keep s with gpr := (s.gpr.set .ax (s.gpr.get r)).set r s.gpr.ax } s (exchangeAx r s) :=
  ((changed_keep s).setReg16 .ax _).setReg16 r _

@[simp] theorem exchange8_flags (o : Operand Reg8) (g : Reg8) (s : State) : (exchange8 o g s).flags = s.flags :=
  State.writeE8_flags ..

@[simp] theorem exchange16_flags (o : Operand Reg16) (g : Reg16) (s : State) : (exchange16 o g s).flags = s.flags :=
  State.writeE16_flags ..

/-- Settles O41: each form is one of the three exchanges, under its opcode byte as a tier 2 instruction. -/
theorem exchangeSwapsOperands : Obligations.ExchangeSwapsOperands := by
  intro s hstrict
  have run (op : Byte) (t : State) : s.tier2 op t = .next t := State.tier2_of_not_strict hstrict op t
  refine ⟨fun e g => ?_, fun e g => ?_, fun i r hmem => ?_⟩
  · exact ⟨_, run 0x86 _, changed_exchange8 .., exchange8_flags ..⟩
  · exact ⟨_, run 0x87 _, changed_exchange16 .., exchange16_flags ..⟩
  · have hexec : ∃ op, exec i s = s.tier2 op (exchangeAx r s) := by
      fin_cases hmem <;> exact ⟨_, rfl⟩
    obtain ⟨op, hop⟩ := hexec
    exact ⟨_, hop.trans (run op _), changed_exchangeAx r s, rfl⟩

/-! ### XLAT, CBW and CWD (R316 to R318) -/

/-- R316: AL is added to BX unsigned, and the sum is wrapped to 16 bits. -/
theorem add_setWidth_eq_ofNat (x : Word) (b : Byte) :
    x + b.setWidth 16 = BitVec.ofNat 16 ((x.toNat + b.toNat) % 65536) := by
  apply BitVec.eq_of_toNat_eq
  simp

/-- The sign bit of a word as a digit of its number. -/
theorem msb_iff_div (x : Word) : x.msb = true ↔ x.toNat / 32768 = 1 := by
  have := x.isLt
  rw [BitVec.msb_eq_decide, decide_eq_true_eq]
  omega

/-- Settles O43: XLAT is one byte write of what it reads; CBW is sign extension and CWD repeats the sign bit. -/
theorem translateAndSignExtend : Obligations.TranslateAndSignExtend := by
  intro s hstrict
  have run (op : Byte) (t : State) : s.tier2 op t = .next t := State.tier2_of_not_strict hstrict op t
  refine ⟨?_, ?_, ?_⟩
  · simp only [← add_setWidth_eq_ofNat]
    exact completes_of_writeE8 rfl (run 0xD7 _)
  · exact ⟨_, run 0x98 _, (changed_keep s).setReg16 .ax (sext8 (s.reg8 .al)), rfl⟩
  · simp only [← msb_iff_div]
    exact ⟨_, run 0x99 _, (changed_keep s).setReg16 .dx _, rfl⟩

/-! ### IN and OUT (R86, R87, R322 to R325) -/

/-- R86: a port read adds its event, with the answer of the state it is made in, and one access. -/
theorem Changed.afterPortRead {c : Changes} {s t : State} (h : Changed c s t) (port : Word) (w : Width) :
    Changed { c with ports := c.ports ++ [.portRead port w (t.portAnswer port w)] } s (t.afterPortRead port w) :=
  { h with
    events := by rw [State.afterPortRead_eq, h.events, List.append_assoc]
    ports := by rw [State.afterPortRead_eq, h.ports, List.length_append, List.length_singleton, Nat.add_assoc] }

/-- R87: a port write adds its event and one access. -/
theorem Changed.portWrite {c : Changes} {s t : State} (h : Changed c s t) (port : Word) (w : Width) (v : Word) :
    Changed { c with ports := c.ports ++ [.portWrite port w v] } s (t.portWrite port w v) :=
  { h with
    events := by rw [State.portWrite_eq, h.events, List.append_assoc]
    ports := by rw [State.portWrite_eq, h.ports, List.length_append, List.length_singleton, Nat.add_assoc] }

/-- R86: the answer to a byte read is truncated to 8 bits. -/
theorem State.portAnswer_byte (s : State) (port : Word) :
    s.portAnswer port .byte = BitVec.ofNat 16 (Config.portIn port .byte s.portCount % 256) :=
  BitVec.eq_of_toNat_eq (by simp [State.portAnswer])

/-- R86: the answer to a word read is truncated to 16 bits. -/
theorem State.portAnswer_word (s : State) (port : Word) :
    s.portAnswer port .word = BitVec.ofNat 16 (Config.portIn port .word s.portCount % 65536) :=
  BitVec.eq_of_toNat_eq (by simp [State.portAnswer])

/-- IN AL: the low byte of the answer, AH kept. -/
theorem changed_inTo8 (p : Word) (s : State) :
    Changed { (Changes.keep s).putE8 (.register .al) (BitVec.ofNat 8 (Config.portIn p .byte s.portCount % 256)) with
      ports := [.portRead p .byte (BitVec.ofNat 16 (Config.portIn p .byte s.portCount % 256))] } s (inTo8 p s) := by
  have hal : BitVec.ofNat 8 (Config.portIn p .byte s.portCount % 256) = loByte (s.portAnswer p .byte) := by
    apply BitVec.eq_of_toNat_eq
    rw [loByte_toNat, State.portAnswer_byte]
    simp
  rw [hal, ← State.portAnswer_byte]
  exact ((changed_keep s).afterPortRead p .byte).setReg8 .al _

theorem changed_inTo16 (p : Word) (s : State) :
    Changed { Changes.keep s with
      gpr := s.gpr.set .ax (BitVec.ofNat 16 (Config.portIn p .word s.portCount % 65536))
      ports := [.portRead p .word (BitVec.ofNat 16 (Config.portIn p .word s.portCount % 65536))] } s (inTo16 p s) := by
  rw [← State.portAnswer_word]
  exact ((changed_keep s).afterPortRead p .word).setReg16 .ax _

theorem changed_outFrom8 (p : Word) (s : State) :
    Changed { Changes.keep s with ports := [.portWrite p .byte (BitVec.ofNat 16 (s.gpr.ax.toNat % 256))] } s
      (outFrom8 p s) := by
  have hal : (s.reg8 .al).setWidth 16 = BitVec.ofNat 16 (s.gpr.ax.toNat % 256) :=
    (BitVec.ofNat_toNat ..).symm.trans (congrArg (BitVec.ofNat 16) (loByte_toNat s.gpr.ax))
  rw [← hal]
  exact (changed_keep s).portWrite p .byte _

theorem changed_outFrom16 (p : Word) (s : State) :
    Changed { Changes.keep s with ports := [.portWrite p .word s.gpr.ax] } s (outFrom16 p s) :=
  (changed_keep s).portWrite p .word _

/-- Settles O44: each form is one of the four accesses, with the port from the immediate or from DX. -/
theorem portInstructions : Obligations.PortInstructions := by
  refine ⟨fun b i hmem imm => ?_, fun b i hmem => ?_, fun s => ?_⟩
  · fin_cases hmem <;> exact decode_imm8 rfl imm
  · fin_cases hmem <;> exact decode_bare rfl
  · intro a8 a16 r8 r16 w8 w16
    refine ⟨fun imm => ?_, ⟨_, rfl, changed_inTo8 .., rfl⟩, ⟨_, rfl, changed_inTo16 .., rfl⟩,
      ⟨_, rfl, changed_outFrom8 .., rfl⟩, ⟨_, rfl, changed_outFrom16 .., rfl⟩⟩
    rw [BitVec.ofNat_toNat]
    exact ⟨⟨_, rfl, changed_inTo8 .., rfl⟩, ⟨_, rfl, changed_inTo16 .., rfl⟩, ⟨_, rfl, changed_outFrom8 .., rfl⟩,
      ⟨_, rfl, changed_outFrom16 .., rfl⟩⟩

end Sys2Proof.Machine
end

section
/-! PROOFS of the statements of 46_stack.md: each push is one `push16` of a word read before SP moves, each pop is `dropTop` and one
write of `top16`. -/

open Sys2Proof.Claims

namespace Sys2Proof.Machine

/-! ### The pushes (R340, R342, R343, R345, R348, R350) -/

/-- An instruction that pushes one word and does nothing else. -/
theorem completes_of_push16 {i : Instr} {w : State → Word} {s : State} (h : exec i s = .next (s.push16 (w s))) :
    Completes i (fun s => (Changes.keep s).push s.cfg.arch (w s)) s :=
  ⟨_, h, (changed_keep s).push16 rfl (w s), State.push16_flags ..⟩

/-- R343: what PUSH SP stores depends on the architecture mode alone. -/
theorem pushSp_eq (s : State) : pushSp s = s.push16 (if s.cfg.arch = .a8086 then s.gpr.sp - 2 else s.gpr.sp) := by
  unfold pushSp
  cases s.cfg.arch <;> rfl

/-- R350: every operand but SP is pushed as it reads before the push. -/
theorem pushOperand_of_ne_sp {e : Rm Reg16} (he : e ≠ .reg .sp) (s : State) :
    pushOperand e s = s.push16 (s.readE16 (resolve s e)) := by
  cases e with
  | mem m => rfl
  | reg r =>
    cases r with
    | sp => exact absurd rfl he
    | ax | cx | dx | bx | bp | si | di => rfl

/-- Settles O45: each form is one push; PUSH SP, in both encodings, is the only one whose word depends on the mode. -/
theorem pushStoresBelowTheTop : Obligations.PushStoresBelowTheTop := by
  intro s v
  have hsp : pushSp s = s.push16 v := pushSp_eq s
  refine ⟨fun b i w hmem => ⟨?_, completes_of_push16 ?_⟩, decode_bare rfl, completes_of_push16 (congrArg Host.Outcome.next hsp),
    fun hstrict e => completes_of_push16 ((State.tier2_of_not_strict hstrict 0xFF _).trans (congrArg Host.Outcome.next ?_))⟩
  · fin_cases hmem <;> exact decode_bare rfl
  · fin_cases hmem <;> rfl
  · by_cases he : e = .reg .sp
    · subst he
      exact hsp
    · rw [if_neg he]
      exact pushOperand_of_ne_sp he s

/-! ### The pops (R341, R344, R346, R349, R351) -/

/-- R341: the word a pop takes is the first from the top of the stack. -/
theorem State.top16_eq_stackWord (s : State) : s.top16 = stackWord s 0 :=
  congrArg (s.read16 s.seg.ss) (BitVec.add_zero s.gpr.sp).symm

/-- R341: a pop moves SP and changes nothing else. -/
theorem changed_dropTop (s : State) : Changed { Changes.keep s with gpr := s.gpr.set .sp (s.gpr.sp + 2) } s s.dropTop :=
  (changed_keep s).setReg16 .sp _

/-- Settles O46: each form is `dropTop` and then one write of the word on top. -/
theorem popReadsTheTop : Obligations.PopReadsTheTop := by
  intro s up top
  have htop : top = s.top16 := s.top16_eq_stackWord.symm
  have hup : Changed (up s) s s.dropTop := changed_dropTop s
  rw [htop]
  refine ⟨fun r => ⟨_, rfl, hup.setReg16 r s.top16, rfl⟩, fun i sr hmem => ?_,
    ⟨_, rfl, hup.setFlags _, Flags.pack_unpack _, Flags.disjoint_unpack _⟩, fun hstrict e => ?_⟩
  · have hexec : exec i s = .next (s.dropTop.setSreg sr s.top16) := by
      fin_cases hmem <;> rfl
    exact ⟨_, hexec, hup.setSreg sr _, rfl⟩
  · exact ⟨_, State.tier2_of_not_strict hstrict 0x8F _, hup.writeE16 rfl _ _, State.writeE16_flags ..⟩

end Sys2Proof.Machine
end


section
/-! PROOFS of the statements of 47_string.md: the changes of one iteration, and the loop of R372 for any iteration that leaves CX, the
segment registers and the parameters alone and does not look at the decode context. -/

open Sys2Proof.Claims

namespace Sys2Proof.Machine

/-! ### The index step (R374) -/

theorem indexStep_ofNat (size : Nat) (s : State) : indexStep (BitVec.ofNat 16 size) s =
    if s.flags.other.getLsbD 10 then BitVec.ofInt 16 (-size) else BitVec.ofNat 16 size := by
  rw [BitVec.ofInt_neg, BitVec.ofInt_natCast]
  rfl

/-- The step is DF's alone. -/
theorem indexStep_congr {s t : State} (h : t.flags.other = s.flags.other) (size : Word) : indexStep size t = indexStep size s := by
  unfold indexStep Flags.df
  rw [h]

theorem Changed.advanceSi {c : Changes} {s t : State} (h : Changed c s t) (hother : t.flags.other = s.flags.other) (size : Word) :
    Changed { c with gpr := c.gpr.set .si (c.gpr.si + indexStep size s) } s (advanceSi size t) := by
  rw [← indexStep_congr hother, ← h.gpr]
  exact { h.setReg16 .si _ with gpr := rfl }

theorem Changed.advanceDi {c : Changes} {s t : State} (h : Changed c s t) (hother : t.flags.other = s.flags.other) (size : Word) :
    Changed { c with gpr := c.gpr.set .di (c.gpr.di + indexStep size s) } s (advanceDi size t) := by
  rw [← indexStep_congr hother, ← h.gpr]
  exact { h.setReg16 .di _ with gpr := rfl }

/-! ### One iteration (R376 to R383) -/

/-- The changes of an iteration that moves SI. -/
def siMoved (size : Word) (s : State) : Changes := { Changes.keep s with gpr := s.gpr.set .si (s.gpr.si + indexStep size s) }

/-- The changes of an iteration that moves DI. -/
def diMoved (size : Word) (s : State) : Changes := { Changes.keep s with gpr := s.gpr.set .di (s.gpr.di + indexStep size s) }

/-- The changes of an iteration that moves both indexes. -/
def bothMoved (size : Word) (s : State) : Changes :=
  { Changes.keep s with gpr := (s.gpr.set .si (s.gpr.si + indexStep size s)).set .di (s.gpr.di + indexStep size s) }

@[simp] theorem State.write8_flags (s : State) (seg off : Word) (v : Byte) : (s.write8 seg off v).flags = s.flags := by
  obtain ⟨l, h⟩ := s.write8_eq seg off v
  rw [h]

section
variable (src : Word) (s : State)

@[simp] theorem movs8_flags : (movs8 src s).flags = s.flags :=
  s.write8_flags (s.sreg .es) (s.reg16 .di) (s.read8 src (s.reg16 .si))

@[simp] theorem movs16_flags : (movs16 src s).flags = s.flags :=
  s.write16_flags (s.sreg .es) (s.reg16 .di) (s.read16 src (s.reg16 .si))

@[simp] theorem stos8_flags : (stos8 src s).flags = s.flags := s.write8_flags (s.sreg .es) (s.reg16 .di) (s.reg8 .al)

@[simp] theorem stos16_flags : (stos16 src s).flags = s.flags := s.write16_flags (s.sreg .es) (s.reg16 .di) (s.reg16 .ax)

theorem changed_movs8 : Changed ((bothMoved 1 s).putE8 (.memory s.seg.es s.gpr.di) (s.read8 src s.gpr.si)) s (movs8 src s) :=
  (((changed_keep s).writeE8 rfl (.memory s.seg.es s.gpr.di) _).advanceSi (by rw [State.writeE8_flags]) 1).advanceDi
    (congrArg Flags.other (State.write8_flags ..)) 1

theorem changed_movs16 :
    Changed ((bothMoved 2 s).putE16 s.cfg.arch (.memory s.seg.es s.gpr.di) (s.read16 src s.gpr.si)) s (movs16 src s) :=
  (((changed_keep s).writeE16 rfl (.memory s.seg.es s.gpr.di) _).advanceSi (by rw [State.writeE16_flags]) 2).advanceDi
    (congrArg Flags.other (State.write16_flags ..)) 2

theorem changed_stos8 : Changed ((diMoved 1 s).putE8 (.memory s.seg.es s.gpr.di) (s.reg8 .al)) s (stos8 src s) :=
  ((changed_keep s).writeE8 rfl (.memory s.seg.es s.gpr.di) _).advanceDi (by rw [State.writeE8_flags]) 1

theorem changed_stos16 : Changed ((diMoved 2 s).putE16 s.cfg.arch (.memory s.seg.es s.gpr.di) s.gpr.ax) s (stos16 src s) :=
  ((changed_keep s).writeE16 rfl (.memory s.seg.es s.gpr.di) _).advanceDi (by rw [State.writeE16_flags]) 2

theorem changed_lods8 : Changed ((siMoved 1 s).putE8 (.register .al) (s.read8 src s.gpr.si)) s (lods8 src s) :=
  ((changed_keep s).setReg8 .al (s.read8 src s.gpr.si)).advanceSi rfl 1

theorem changed_lods16 : Changed ((siMoved 2 s).putE16 s.cfg.arch (.register .ax) (s.read16 src s.gpr.si)) s (lods16 src s) :=
  ((changed_keep s).setReg16 .ax (s.read16 src s.gpr.si)).advanceSi rfl 2

theorem changed_cmps8 : Changed (bothMoved 1 s) s (cmps8 src s) :=
  (((changed_keep s).setFlags _).advanceSi (alu_other ..) 1).advanceDi (alu_other ..) 1

theorem changed_cmps16 : Changed (bothMoved 2 s) s (cmps16 src s) :=
  (((changed_keep s).setFlags _).advanceSi (alu_other ..) 2).advanceDi (alu_other ..) 2

theorem changed_scas8 : Changed (diMoved 1 s) s (scas8 src s) := ((changed_keep s).setFlags _).advanceDi (alu_other ..) 1

theorem changed_scas16 : Changed (diMoved 2 s) s (scas16 src s) := ((changed_keep s).setFlags _).advanceDi (alu_other ..) 2

end

/-! ### The ten instructions as iterations (R372) -/

/-- The one iteration of each string instruction. -/
def stringIter : Instr → Word → State → State
  | .movsb => movs8
  | .movsw => movs16
  | .cmpsb => cmps8
  | .cmpsw => cmps16
  | .stosb => stos8
  | .stosw => stos16
  | .lodsb => lods8
  | .lodsw => lods16
  | .scasb => scas8
  | .scasw => scas16
  | _ => fun _ s => s

theorem exec_strings (s : State) : ∀ i ∈ strings, exec i s = .next (repeatString (comparing i) (stringIter i) s) := by
  simp only [strings, List.forall_mem_cons]
  exact ⟨rfl, rfl, rfl, rfl, rfl, rfl, rfl, rfl, rfl, rfl, fun _ h => absurd h List.not_mem_nil⟩

theorem repeatString_of_none {compares : Bool} {iter : Word → State → State} {s : State} (h : s.ctx.rep = none) :
    repeatString compares iter s = iter (segmentFor s .ds) s := by
  simp only [repeatString, h]

theorem repeatString_of_some {compares : Bool} {iter : Word → State → State} {s : State} {mode : RepMode}
    (h : s.ctx.rep = some mode) : repeatString compares iter s = repeatLoop compares mode iter
      (if s.cfg.overridePersistsInRep then segmentFor s .ds else s.sreg .ds) s.gpr.cx.toNat (segmentFor s .ds) s := by
  simp only [repeatString, h]
  rfl

/-- Settles O47: without a repeat mode an instruction is its one iteration. -/
theorem stringInstructionRunsOnce : Obligations.StringInstructionRunsOnce := by
  intro s hrep src d
  have hd : d = fun size => indexStep (BitVec.ofNat 16 size) s := funext fun size => (indexStep_ofNat size s).symm
  clear_value d
  subst hd
  intro si di both
  have run {i : Instr} (hi : i ∈ strings) : exec i s = .next (stringIter i src s) := by
    rw [exec_strings s i hi, repeatString_of_none hrep]
    rfl
  refine ⟨?_, ?_, ?_, ?_, ?_, ?_, ?_, ?_, ?_, ?_⟩
  · exact ⟨_, run (by decide), changed_movs8 src s, movs8_flags src s⟩
  · exact ⟨_, run (by decide), changed_movs16 src s, movs16_flags src s⟩
  · exact ⟨_, run (by decide), changed_stos8 src s, stos8_flags src s⟩
  · exact ⟨_, run (by decide), changed_stos16 src s, stos16_flags src s⟩
  · exact ⟨_, run (by decide), changed_lods8 src s, rfl⟩
  · exact ⟨_, run (by decide), changed_lods16 src s, rfl⟩
  · exact ⟨_, _, run (by decide), changed_cmps8 src s, alu_other .., subRule_subWith _ _ false _⟩
  · exact ⟨_, _, run (by decide), changed_cmps16 src s, alu_other .., subRule_subWith _ _ false _⟩
  · exact ⟨_, _, run (by decide), changed_scas8 src s, alu_other .., subRule_subWith _ _ false _⟩
  · exact ⟨_, _, run (by decide), changed_scas16 src s, alu_other .., subRule_subWith _ _ false _⟩

/-! ### The repeat loop (R372, R373, R375) -/

/-- What the loop needs of an iteration: it leaves CX, the segment registers and the parameters, and does not look at the decode
context. -/
structure LoopBody (iter : Word → State → State) : Prop where
  cx : ∀ src s, (iter src s).gpr.cx = s.gpr.cx
  seg : ∀ src s, (iter src s).seg = s.seg
  cfg : ∀ src s, (iter src s).cfg = s.cfg
  setCtx : ∀ src s c, iter src (s.setCtx c) = (iter src s).setCtx c

theorem State.writeByte_setCtx (s : State) (c : DecodeCtx) (a : Nat) (v : Byte) :
    (s.setCtx c).writeByte a v = (s.writeByte a v).setCtx c := by
  unfold State.writeByte State.hookEvent
  rw [State.setCtx_hooks]
  split <;> rfl

theorem State.write8_setCtx (s : State) (c : DecodeCtx) (seg off : Word) (v : Byte) :
    (s.setCtx c).write8 seg off v = (s.write8 seg off v).setCtx c :=
  s.writeByte_setCtx c (translate seg off.toNat) v

theorem State.write16_setCtx (s : State) (c : DecodeCtx) (seg off v : Word) :
    (s.setCtx c).write16 seg off v = (s.write16 seg off v).setCtx c := by
  rw [State.write16, State.writeByte_setCtx, State.writeByte_setCtx]
  rfl

section
variable (src : Word) (s : State) (c : DecodeCtx)

theorem movs8_setCtx : movs8 src (s.setCtx c) = (movs8 src s).setCtx c :=
  congrArg (fun t => advanceDi 1 (advanceSi 1 t)) (s.write8_setCtx c (s.sreg .es) (s.reg16 .di) (s.read8 src (s.reg16 .si)))

theorem movs16_setCtx : movs16 src (s.setCtx c) = (movs16 src s).setCtx c :=
  congrArg (fun t => advanceDi 2 (advanceSi 2 t)) (s.write16_setCtx c (s.sreg .es) (s.reg16 .di) (s.read16 src (s.reg16 .si)))

theorem stos8_setCtx : stos8 src (s.setCtx c) = (stos8 src s).setCtx c :=
  congrArg (advanceDi 1) (s.write8_setCtx c (s.sreg .es) (s.reg16 .di) (s.reg8 .al))

theorem stos16_setCtx : stos16 src (s.setCtx c) = (stos16 src s).setCtx c :=
  congrArg (advanceDi 2) (s.write16_setCtx c (s.sreg .es) (s.reg16 .di) (s.reg16 .ax))

end

/-- An iteration that changes no more than indexes, bytes and the accumulator. -/
theorem LoopBody.of_changed {iter : Word → State → State} {c : Word → State → Changes}
    (h : ∀ src s, Changed (c src s) s (iter src s))
    (hcx : ∀ src s, (c src s).gpr.cx = s.gpr.cx) (hseg : ∀ src s, (c src s).seg = s.seg)
    (hctx : ∀ src s ctx, iter src (s.setCtx ctx) = (iter src s).setCtx ctx) : LoopBody iter where
  cx src s := (congrArg Gpr.cx (h src s).gpr).trans (hcx src s)
  seg src s := (h src s).seg.trans (hseg src s)
  cfg src s := (h src s).cfg
  setCtx := hctx

theorem loopBody_stringIter : ∀ i ∈ strings, LoopBody (stringIter i) := by
  intro i hi
  fin_cases hi
  · exact .of_changed changed_movs8 (fun _ _ => rfl) (fun _ _ => rfl) movs8_setCtx
  · exact .of_changed changed_movs16 (fun _ _ => rfl) (fun _ _ => rfl) movs16_setCtx
  · exact .of_changed changed_cmps8 (fun _ _ => rfl) (fun _ _ => rfl) fun _ _ _ => rfl
  · exact .of_changed changed_cmps16 (fun _ _ => rfl) (fun _ _ => rfl) fun _ _ _ => rfl
  · exact .of_changed changed_stos8 (fun _ _ => rfl) (fun _ _ => rfl) stos8_setCtx
  · exact .of_changed changed_stos16 (fun _ _ => rfl) (fun _ _ => rfl) stos16_setCtx
  · exact .of_changed changed_lods8 (fun _ _ => rfl) (fun _ _ => rfl) fun _ _ _ => rfl
  · exact .of_changed changed_lods16 (fun _ _ => rfl) (fun _ _ => rfl) fun _ _ _ => rfl
  · exact .of_changed changed_scas8 (fun _ _ => rfl) (fun _ _ => rfl) fun _ _ _ => rfl
  · exact .of_changed changed_scas16 (fun _ _ => rfl) (fun _ _ => rfl) fun _ _ _ => rfl

/-- A step that does not look at the decode context leaves it. -/
theorem ctx_of_setCtx {f : State → State} (h : ∀ s c, f (s.setCtx c) = (f s).setCtx c) (s : State) : (f s).ctx = s.ctx := by
  have hself : f s = (f s).setCtx s.ctx := h s s.ctx
  rw [hself]
  rfl

/-- R372: one iteration and the CX decrement. -/
def afterIteration (iter : Word → State → State) (src : Word) (s : State) : State :=
  (iter src s).setReg16 .cx ((iter src s).gpr.cx - 1)

/-- R372: one turn of the loop. -/
theorem repeatLoop_succ (compares : Bool) (mode : RepMode) (iter : Word → State → State) (later : Word) (n : Nat) (seg : Word)
    (s : State) : repeatLoop compares mode iter later (n + 1) seg s =
      if compares && stopsOn mode (afterIteration iter seg s).flags.zf then afterIteration iter seg s
      else repeatLoop compares mode iter later n later (afterIteration iter seg s) := rfl

namespace LoopBody

variable {iter : Word → State → State} (h : LoopBody iter)
include h

theorem afterIteration_setCtx (src : Word) (s : State) (c : DecodeCtx) :
    afterIteration iter src (s.setCtx c) = (afterIteration iter src s).setCtx c := by
  unfold afterIteration
  rw [h.setCtx]
  rfl

theorem repeatLoop_setCtx (compares : Bool) (mode : RepMode) (later : Word) (n : Nat) (seg : Word) (s : State) (c : DecodeCtx) :
    repeatLoop compares mode iter later n seg (s.setCtx c) = (repeatLoop compares mode iter later n seg s).setCtx c := by
  induction n generalizing seg s with
  | zero => rfl
  | succ n ih =>
    rw [repeatLoop_succ, repeatLoop_succ, h.afterIteration_setCtx, ih, State.setCtx_flags]
    split <;> rfl

theorem afterIteration_cx {src : Word} {s : State} {n : Nat} (hn : s.gpr.cx.toNat = n + 1) :
    (afterIteration iter src s).gpr.cx.toNat = n := by
  show ((iter src s).gpr.cx - 1).toNat = n
  rw [h.cx, BitVec.toNat_sub, hn]
  have hlt := s.gpr.cx.isLt
  simp
  omega

/-- R373: the iterations after the first are a repeated instruction again, whose context has lost the override unless the parameter
keeps it. -/
theorem repeatString_afterIteration (compares : Bool) {s : State} {mode : RepMode} (hrep : s.ctx.rep = some mode) {n : Nat}
    (hn : s.gpr.cx.toNat = n + 1) (src : Word) :
    (repeatString compares iter ((afterIteration iter src s).setCtx
      (if s.cfg.overridePersistsInRep then s.ctx else { s.ctx with override := none }))).setCtx s.ctx
    = repeatLoop compares mode iter (if s.cfg.overridePersistsInRep then segmentFor s .ds else s.sreg .ds) n
      (if s.cfg.overridePersistsInRep then segmentFor s .ds else s.sreg .ds) (afterIteration iter src s) := by
  have hcx : (afterIteration iter src s).gpr.cx.toNat = n := h.afterIteration_cx hn
  have hseg : (afterIteration iter src s).seg = s.seg := h.seg src s
  have hcfg : (afterIteration iter src s).cfg = s.cfg := h.cfg src s
  have hctx : (afterIteration iter src s).ctx = s.ctx := ctx_of_setCtx (h.afterIteration_setCtx src) s
  generalize afterIteration iter src s = u at hcx hseg hcfg hctx ⊢
  -- the outcome's context is that of the whole instruction again
  have hkeep (x : State) (c : DecodeCtx) (hx : x.ctx = s.ctx) : (x.setCtx c).setCtx s.ctx = x := by
    rw [← hx]
    rfl
  have hloop (later seg : Word) : (repeatLoop compares mode iter later n seg u).ctx = s.ctx :=
    (ctx_of_setCtx (h.repeatLoop_setCtx compares mode later n seg) u).trans hctx
  have hrun (c : DecodeCtx) (hc : c.rep = some mode) : (repeatString compares iter (u.setCtx c)).setCtx s.ctx =
      repeatLoop compares mode iter (if s.cfg.overridePersistsInRep then s.seg.get (c.override.getD .ds) else s.seg.get .ds) n
        (s.seg.get (c.override.getD .ds)) u := by
    rw [repeatString_of_some (s := u.setCtx c) hc, h.repeatLoop_setCtx, State.setCtx_gpr, hcx, hkeep _ _ (hloop ..),
      State.setCtx_cfg, hcfg, ← hseg]
    rfl
  cases hpersists : s.cfg.overridePersistsInRep with
  | true =>
    rw [hpersists] at hrun
    exact hrun s.ctx hrep
  | false =>
    rw [hpersists] at hrun
    exact hrun { s.ctx with override := none } hrep

end LoopBody

/-- R372: the exit condition of CMPS and SCAS. -/
theorem stopsOn_iff (mode : RepMode) (zf : Bool) : stopsOn mode zf = true ↔ zf = decide (mode = .repnz) := by
  cases mode <;> cases zf <;> decide

/-- Settles O48: the loop is one turn and, if the exit test fails, the loop again; no iteration looks at the decode context, so the
rest of the loop is the instruction repeated from there. -/
theorem repeatLoopUnrolls : Obligations.RepeatLoopUnrolls := by
  intro i hi s mode hrep
  have hbody := loopBody_stringIter i hi
  have hexec (t : State) : exec i t = .next (repeatString (comparing i) (stringIter i) t) := exec_strings t i hi
  refine ⟨fun hzero => ?_, fun hne => ?_⟩
  · rw [hexec, repeatString_of_some hrep, hzero]
    rfl
  · obtain ⟨n, hn⟩ := Nat.exists_eq_succ_of_ne_zero hne
    refine ⟨(stringIter i (segmentFor s .ds) s).setCtx { s.ctx with rep := none }, ?_, ?_⟩
    · rw [← hbody.setCtx, hexec, repeatString_of_none rfl]
      rfl
    · intro u
      have hu : u = afterIteration (stringIter i) (segmentFor s .ds) s := by
        have hctx := ctx_of_setCtx (hbody.afterIteration_setCtx (segmentFor s .ds)) s
        unfold u
        rw [← hctx]
        rfl
      clear_value u
      subst hu
      have hturn := hexec s
      rw [repeatString_of_some hrep, hn, repeatLoop_succ] at hturn
      by_cases hstop : comparing i = true ∧ (afterIteration (stringIter i) (segmentFor s .ds) s).flags.zf = decide (mode = .repnz)
      · rw [if_pos hstop, hturn, if_pos (by rwa [Bool.and_eq_true, stopsOn_iff])]
      · rw [if_neg hstop, hturn, if_neg (by rwa [Bool.and_eq_true, stopsOn_iff]), hexec]
        exact congrArg Host.Outcome.next (hbody.repeatString_afterIteration (comparing i) hrep hn _).symm

/-! ### Indexes under the loop (R370, R374) -/

/-- How far one iteration moves an index it uses, or does not use. -/
def indexStride (uses : Bool) (size : Word) (s : State) : Word := if uses then indexStep size s else 0

/-- An iteration of MOVS, STOS or LODS, as far as CX, the flags and the two indexes go. -/
structure AdvancesIndexes (size : Word) (usesSi usesDi : Bool) (iter : Word → State → State) : Prop where
  flags : ∀ src s, (iter src s).flags = s.flags
  cx : ∀ src s, (iter src s).gpr.cx = s.gpr.cx
  si : ∀ src s, (iter src s).gpr.si = s.gpr.si + indexStride usesSi size s
  di : ∀ src s, (iter src s).gpr.di = s.gpr.di + indexStride usesDi size s

theorem AdvancesIndexes.of_changed {size : Word} {usesSi usesDi : Bool} {iter : Word → State → State}
    {c : Word → State → Changes} (h : ∀ src s, Changed (c src s) s (iter src s)) (hflags : ∀ src s, (iter src s).flags = s.flags)
    (hgpr : ∀ src s, (c src s).gpr.cx = s.gpr.cx ∧ (c src s).gpr.si = s.gpr.si + indexStride usesSi size s
      ∧ (c src s).gpr.di = s.gpr.di + indexStride usesDi size s) : AdvancesIndexes size usesSi usesDi iter where
  flags := hflags
  cx src s := by
    obtain ⟨hcx, -, -⟩ := hgpr src s
    rw [(h src s).gpr, hcx]
  si src s := by
    obtain ⟨-, hsi, -⟩ := hgpr src s
    rw [(h src s).gpr, hsi]
  di src s := by
    obtain ⟨-, -, hdi⟩ := hgpr src s
    rw [(h src s).gpr, hdi]

/-- An index after `n + 1` strides. -/
theorem add_succ_mul (x d : Word) (n : Nat) : x + BitVec.ofNat 16 (n + 1) * d = x + d + BitVec.ofNat 16 n * d := by
  rw [Nat.add_comm, BitVec.ofNat_add, BitVec.add_mul, BitVec.one_mul, BitVec.add_assoc]

/-- R372, R374: `n` iterations move each index by `n` strides, CX by `n`, and no flag. -/
theorem AdvancesIndexes.repeatLoop {size : Word} {usesSi usesDi : Bool} {iter : Word → State → State}
    (h : AdvancesIndexes size usesSi usesDi iter) (mode : RepMode) (later : Word) (n : Nat) (seg : Word) (s : State) :
    (repeatLoop false mode iter later n seg s).flags = s.flags
      ∧ (repeatLoop false mode iter later n seg s).gpr.cx = s.gpr.cx - BitVec.ofNat 16 n
      ∧ (repeatLoop false mode iter later n seg s).gpr.si = s.gpr.si + BitVec.ofNat 16 n * indexStride usesSi size s
      ∧ (repeatLoop false mode iter later n seg s).gpr.di = s.gpr.di + BitVec.ofNat 16 n * indexStride usesDi size s := by
  induction n generalizing seg s with
  | zero => simp [Machine.repeatLoop]
  | succ n ih =>
    have hflags : (afterIteration iter seg s).flags = s.flags := h.flags seg s
    have hcx : (afterIteration iter seg s).gpr.cx = s.gpr.cx - 1 := congrArg (· - 1) (h.cx seg s)
    have hsi : (afterIteration iter seg s).gpr.si = s.gpr.si + indexStride usesSi size s := h.si seg s
    have hdi : (afterIteration iter seg s).gpr.di = s.gpr.di + indexStride usesDi size s := h.di seg s
    have hstride (uses : Bool) : indexStride uses size (afterIteration iter seg s) = indexStride uses size s := by
      rw [indexStride, indexStep_congr (congrArg Flags.other hflags), indexStride]
    rw [repeatLoop_succ, Bool.false_and, if_neg Bool.false_ne_true, add_succ_mul, add_succ_mul, ← hsi, ← hdi, ← hstride,
      ← hstride, ← hflags]
    obtain ⟨ihflags, ihcx, ihsi, ihdi⟩ := ih later (afterIteration iter seg s)
    refine ⟨ihflags, ?_, ihsi, ihdi⟩
    rw [ihcx, hcx, Nat.add_comm, BitVec.ofNat_add]
    bv_omega

/-- R374: `n` strides as an integer, up or down by DF. -/
theorem add_mul_indexStride (x : Word) (n size : Nat) (uses : Bool) (s : State) :
    x + BitVec.ofNat 16 n * indexStride uses (BitVec.ofNat 16 size) s = if uses
      then BitVec.ofInt 16 (x.toNat + if s.flags.other.getLsbD 10 then -(size * n : Int) else size * n) else x := by
  cases uses with
  | false => simp [indexStride]
  | true =>
    have hx : BitVec.ofInt 16 x.toNat = x := by simp
    rw [if_pos rfl, BitVec.ofInt_add, hx, indexStride, if_pos rfl, indexStep_ofNat, BitVec.mul_comm]
    split
    · rw [← Int.neg_mul, BitVec.ofInt_mul, BitVec.ofInt_natCast]
    · rw [BitVec.ofInt_mul, BitVec.ofInt_natCast, BitVec.ofInt_natCast]

/-- Settles O49: the loop runs CX times, each time by one stride of the indexes the instruction uses. -/
theorem repeatedMoveAdvancesIndexes : Obligations.RepeatedMoveAdvancesIndexes := by
  intro i size usesSi usesDi hmem s mode hrep d
  obtain ⟨hstring, hcomparing, hiter⟩ : i ∈ strings ∧ comparing i = false
      ∧ AdvancesIndexes (BitVec.ofNat 16 size) usesSi usesDi (stringIter i) := by
    fin_cases hmem
    · exact ⟨by decide, rfl, .of_changed changed_movs8 movs8_flags fun _ _ => ⟨rfl, rfl, rfl⟩⟩
    · exact ⟨by decide, rfl, .of_changed changed_movs16 movs16_flags fun _ _ => ⟨rfl, rfl, rfl⟩⟩
    · exact ⟨by decide, rfl, .of_changed changed_stos8 stos8_flags fun _ _ => ⟨rfl, (BitVec.add_zero _).symm, rfl⟩⟩
    · exact ⟨by decide, rfl, .of_changed changed_stos16 stos16_flags fun _ _ => ⟨rfl, (BitVec.add_zero _).symm, rfl⟩⟩
    · exact ⟨by decide, rfl, .of_changed changed_lods8 (fun _ _ => rfl) fun _ _ => ⟨rfl, rfl, (BitVec.add_zero _).symm⟩⟩
    · exact ⟨by decide, rfl, .of_changed changed_lods16 (fun _ _ => rfl) fun _ _ => ⟨rfl, rfl, (BitVec.add_zero _).symm⟩⟩
  have hexec := exec_strings s i hstring
  rw [hcomparing, repeatString_of_some hrep] at hexec
  obtain ⟨hflags, hcx, hsi, hdi⟩ := hiter.repeatLoop mode
    (if s.cfg.overridePersistsInRep then segmentFor s .ds else s.sreg .ds) s.gpr.cx.toNat (segmentFor s .ds) s
  rw [BitVec.ofNat_toNat, BitVec.setWidth_eq, BitVec.sub_self] at hcx
  rw [add_mul_indexStride] at hsi hdi
  exact ⟨_, hexec, hcx, hflags, hsi, hdi⟩

end Sys2Proof.Machine
end

section
/-! PROOFS of the statements of 48_control_transfer.md: the target of a relative jump as a wrapped sum of integers, the words that pops
read, and the frames of a far transfer, a call and a loop. -/

open Sys2Proof.Claims

namespace Sys2Proof.Machine

/-! ### Relative targets (R401) -/

/-- R401: a short displacement counts as a signed integer. -/
theorem add_sext8_eq_ofInt (x : Word) (d : Byte) : x + sext8 d = BitVec.ofInt 16 (x.toNat + d.toInt) := by
  rw [BitVec.ofInt_add, BitVec.ofInt_natCast, BitVec.ofNat_toNat, BitVec.setWidth_eq]
  rfl

theorem add_eq_ofNat (x y : Word) : x + y = BitVec.ofNat 16 ((x.toNat + y.toNat) % 65536) := BitVec.eq_of_toNat_eq (by simp)

@[simp] theorem jumpIf_flags (taken : Bool) (d : Byte) (s : State) : (jumpIf taken d s).flags = s.flags := by
  cases taken <;> rfl

theorem Changed.jumpIf {c : Changes} {s t : State} (h : Changed c s t) (taken : Bool) (d : Byte) :
    Changed { c with ip := if taken then BitVec.ofInt 16 (c.ip.toNat + d.toInt) else c.ip } s (jumpIf taken d t) := by
  rw [← add_sext8_eq_ofInt, ← h.ip]
  cases taken with
  | true => exact h.setIp _
  | false => exact { h with ip := rfl }

/-- An instruction that is a short jump and nothing else. -/
theorem completes_of_jumpIf {i : Instr} {taken : Bool} {d : Byte} {s : State} (h : exec i s = .next (jumpIf taken d s)) :
    Completes i (fun s => { Changes.keep s with ip := if taken then BitVec.ofInt 16 (s.ip.toNat + d.toInt) else s.ip }) s :=
  ⟨_, h, (changed_keep s).jumpIf taken d, jumpIf_flags ..⟩

/-! ### The conditional jumps (R402) -/

/-- Each jump of the table is the short jump on the table's condition. -/
theorem exec_jumps (d : Byte) (s : State) : ∀ p ∈ jumps, exec (p.2.1 d) s = .next (jumpIf (p.2.2 s.flags) d s) := by
  have jump {taken cond : Bool} (h : taken = cond) : (.next (jumpIf taken d s) : Result) = .next (jumpIf cond d s) := by rw [h]
  intro p hp
  fin_cases hp <;> exact jump (by simp [Cond.holds, bne, beq_eq_decide])

/-- Settles O50: each row of the table is a short jump on its condition, and its opcode byte takes one displacement byte. -/
theorem conditionalJumps : Obligations.ConditionalJumps := by
  intro b i taken hmem d
  refine ⟨?_, fun s => completes_of_jumpIf (exec_jumps d s _ hmem)⟩
  fin_cases hmem <;> exact decode_imm8 rfl d

/-! ### The jumps (R404 to R409) -/

theorem Changed.goFar {c : Changes} {s t : State} (h : Changed c s t) (off seg : Word) :
    Changed { c with ip := off, seg := c.seg.set .cs seg } s (goFar off seg t) :=
  (h.setSreg .cs seg).setIp off

/-- Settles O51: a near jump writes IP alone, a far one is `goFar`; an indirect target is read before. -/
theorem unconditionalJumps : Obligations.UnconditionalJumps := by
  intro s
  refine ⟨fun d => ?_, fun d => ?_, fun e => ⟨_, rfl, (changed_keep s).setIp _, rfl⟩,
    fun off seg => ⟨_, rfl, (changed_keep s).goFar off seg, rfl⟩, fun m => ?_⟩
  · simp only [← add_sext8_eq_ofInt]
    exact ⟨_, rfl, (changed_keep s).setIp _, rfl⟩
  · simp only [← add_eq_ofNat]
    exact ⟨_, rfl, (changed_keep s).setIp _, rfl⟩
  · intro seg off
    refine ⟨_, rfl, ?_, rfl⟩
    rw [State.farSegment_eq]
    exact (changed_keep s).goFar _ _

/-! ### The calls (R410 to R414) -/

/-- R410: a near call. -/
theorem changed_callNearTo (s : State) (v : Word) :
    Changed { (Changes.keep s).push s.cfg.arch s.ip with ip := v } s ((s.push16 s.ip).setIp v) :=
  ((changed_keep s).push16 rfl s.ip).setIp v

/-- R410: a far call pushes CS and then IP. -/
theorem changed_callFarTo (s : State) (off seg : Word) :
    Changed { ((Changes.keep s).push s.cfg.arch s.seg.cs).push s.cfg.arch s.ip with ip := off, seg := s.seg.set .cs seg } s
      (callFarTo off seg s) :=
  (((changed_keep s).push16 rfl s.seg.cs).push16 rfl s.ip).goFar off seg

@[simp] theorem callFarTo_flags (off seg : Word) (s : State) : (callFarTo off seg s).flags = s.flags :=
  (State.push16_flags ..).trans (State.push16_flags ..)

/-- Settles O52: each call is one of the two, to a target that is computed before the first push. -/
theorem calls : Obligations.Calls := by
  intro s
  refine ⟨fun d => ?_, fun e => ⟨_, rfl, changed_callNearTo s _, State.push16_flags ..⟩,
    fun off seg => ⟨_, rfl, changed_callFarTo s off seg, callFarTo_flags ..⟩, fun m => ?_⟩
  · simp only [← add_eq_ofNat]
    exact ⟨_, rfl, changed_callNearTo s _, State.push16_flags ..⟩
  · intro seg off
    refine ⟨_, rfl, ?_, callFarTo_flags ..⟩
    rw [State.farSegment_eq]
    exact changed_callFarTo s _ _

/-! ### The returns (R415 to R418) -/

@[simp] theorem Gpr.set_set (g : Gpr) (r : Reg16) (v w : Word) : (g.set r v).set r w = g.set r w := by cases r <;> rfl

/-- R341: the second of two pops takes the second word from the top. -/
theorem State.top16_dropTop (s : State) : s.dropTop.top16 = stackWord s 1 := rfl

/-- R341: the third of three pops. -/
theorem State.top16_dropTop_dropTop (s : State) : s.dropTop.dropTop.top16 = stackWord s 2 :=
  congrArg (s.read16 s.seg.ss) (BitVec.add_assoc s.gpr.sp 2 2)

theorem changed_retNear (s : State) :
    Changed { Changes.keep s with ip := stackWord s 0, gpr := s.gpr.set .sp (s.gpr.sp + 2) } s (s.dropTop.setIp s.top16) := by
  rw [State.top16_eq_stackWord]
  exact (changed_dropTop s).setIp _

/-- R417: both pops use the SS of before, and SP moves by both words. -/
theorem changed_returnFar (s : State) :
    Changed { Changes.keep s with ip := stackWord s 0, seg := s.seg.set .cs (stackWord s 1), gpr := s.gpr.set .sp (s.gpr.sp + 4) } s
      (returnFar s) := by
  have hsp : (s.gpr.set .sp (s.gpr.sp + 2)).set .sp (s.gpr.sp + 2 + 2) = s.gpr.set .sp (s.gpr.sp + 4) := by
    rw [Gpr.set_set, BitVec.add_assoc]
    rfl
  rw [← hsp, returnFar, State.top16_eq_stackWord, State.top16_dropTop]
  exact ((changed_dropTop s).setReg16 .sp _).goFar _ _

/-- R416, R418: the parameters are released after the pops, `k` bytes of them. -/
theorem Changed.releaseStack {c : Changes} {s t : State} {k : Nat} (h : Changed c s t)
    (hc : c.gpr = s.gpr.set .sp (s.gpr.sp + BitVec.ofNat 16 k)) (n : Word) :
    Changed { c with gpr := s.gpr.set .sp (BitVec.ofNat 16 ((s.gpr.sp.toNat + k + n.toNat) % 65536)) } s (releaseStack n t) := by
  have hsp : t.reg16 .sp + n = BitVec.ofNat 16 ((s.gpr.sp.toNat + k + n.toNat) % 65536) := by
    apply BitVec.eq_of_toNat_eq
    rw [State.reg16, h.gpr, hc, Gpr.get_set_same]
    simp
  rw [Machine.releaseStack, hsp, ← Gpr.set_set s.gpr .sp (s.gpr.sp + BitVec.ofNat 16 k), ← hc]
  exact h.setReg16 .sp _

/-- Settles O53: a near return is one pop and a far one two, and the immediate is added to the SP they leave. -/
theorem returns : Obligations.Returns := by
  refine ⟨decode_bare rfl, fun _ _ => rfl, decode_bare rfl, fun _ _ => rfl, fun s => ⟨?_, fun n => ?_, ?_, fun n => ?_⟩⟩
  · exact ⟨_, rfl, changed_retNear s, rfl⟩
  · exact ⟨_, rfl, (changed_retNear s).releaseStack rfl n, rfl⟩
  · exact ⟨_, rfl, changed_returnFar s, rfl⟩
  · exact ⟨_, rfl, (changed_returnFar s).releaseStack rfl n, rfl⟩

/-! ### The LOOP family and JCXZ (R425 to R428) -/

theorem sub_one_eq_ofNat (x : Word) : x - 1 = BitVec.ofNat 16 ((x.toNat + 65535) % 65536) :=
  BitVec.eq_of_toNat_eq (by simp [BitVec.toNat_sub]; omega)

theorem beq_zero_eq_decide (x : Word) : (x == 0#16) = decide (x.toNat = 0) := by
  rw [Bool.eq_iff_iff]
  simp [BitVec.toNat_eq]

theorem bne_zero_eq_decide (x : Word) : (x != 0#16) = decide (x.toNat ≠ 0) := by
  rw [bne, beq_zero_eq_decide, decide_not]

/-- R425 to R427: CX is decremented, and the jump is a short one on the new CX and the instruction's own condition. -/
theorem completes_of_loopIf {i : Instr} {also : Bool} {d : Byte} {s : State} (h : exec i s = .next (loopIf also d s)) {taken : Bool}
    (htaken : taken = (decide ((s.gpr.cx - 1).toNat ≠ 0) && also)) :
    Completes i (fun s' => { Changes.keep s' with
      gpr := s'.gpr.set .cx (s.gpr.cx - 1), ip := if taken then BitVec.ofInt 16 (s.ip.toNat + d.toInt) else s'.ip }) s := by
  refine ⟨_, h, ?_, jumpIf_flags ..⟩
  rw [htaken, ← bne_zero_eq_decide]
  exact ((changed_keep s).setReg16 .cx _).jumpIf _ d

/-- Settles O54: the LOOP family differs in the second half of the condition, and JCXZ is a short jump on CX = 0. -/
theorem loopInstructions : Obligations.LoopInstructions := by
  intro s d
  refine ⟨decode_imm8 rfl d, decode_imm8 rfl d, decode_imm8 rfl d, decode_imm8 rfl d, ?_⟩
  intro target cx c
  have hcx : s.gpr.cx - 1 = cx := sub_one_eq_ofNat _
  have hjcxz : exec (.jcxz d) s = .next (jumpIf (decide (s.gpr.cx.toNat = 0)) d s) := by
    rw [← beq_zero_eq_decide]
    rfl
  unfold c
  rw [← hcx]
  refine ⟨completes_of_loopIf rfl ?_, completes_of_loopIf rfl ?_, completes_of_loopIf rfl ?_, ?_⟩
  · simp
  · simp
  · simp
  · have hchanged := (changed_keep s).jumpIf (decide (s.gpr.cx.toNat = 0)) d
    simp only [decide_eq_true_eq] at hchanged
    exact ⟨_, hjcxz, hchanged, jumpIf_flags ..⟩

end Sys2Proof.Machine
end

section
/-! PROOFS of the statements of 49_flags_int_hlt.md and of the interrupt rules of 60_exceptions.md: a push leaves the words above it,
so that three pops take what an interrupt entry pushed; and no instruction but HLT touches the Halt signal. -/

open Sys2Proof.Claims

namespace Sys2Proof.Machine

/-! ### Single flags, HLT and NOP (R450 to R456, R476, R478) -/

/-- Settles O55: each of the seven is one write of the flag fields, and the opcode map gives each its byte. -/
theorem singleFlagsHltAndNop : Obligations.SingleFlagsHltAndNop := by
  refine ⟨fun b i f hmem => ?_, decode_bare rfl, decode_bare rfl, fun s => ⟨rfl, fun hstrict => ?_⟩⟩
  · fin_cases hmem <;> exact ⟨decode_bare rfl, fun s => rfl⟩
  · exact State.tier2_of_not_strict hstrict ..

/-! ### SAHF and LAHF (R459, R460) -/

/-- A byte as the sum of its bits. -/
theorem byte_eq_sum_of_bits (b : Byte) : b = BitVec.ofNat 8 ((b.getLsbD 7).toNat * 128 + (b.getLsbD 6).toNat * 64
    + (b.getLsbD 5).toNat * 32 + (b.getLsbD 4).toNat * 16 + (b.getLsbD 3).toNat * 8 + (b.getLsbD 2).toNat * 4
    + (b.getLsbD 1).toNat * 2 + (b.getLsbD 0).toNat) := by
  revert b
  decide

theorem loByte_getLsbD (v : Word) {k : Nat} (hk : k < 8) : (loByte v).getLsbD k = v.getLsbD k := by
  simp [loByte, hk]

/-- R33, R460: the low byte of FLAGS, the opaque bits as stored. -/
theorem loByte_pack {f : Flags} (h : f.Disjoint) : loByte f.pack = BitVec.ofNat 8 (f.sf.toNat * 128 + f.zf.toNat * 64
    + (f.other.getLsbD 5).toNat * 32 + f.af.toNat * 16 + (f.other.getLsbD 3).toNat * 8 + f.pf.toNat * 4
    + (f.other.getLsbD 1).toNat * 2 + f.cf.toNat) := by
  have clear {k : Nat} (hk : (0x08D5#16).getLsbD k = true) : f.other.getLsbD k = false := Flags.other_getLsbD h k hk
  have h0 := clear (k := 0) rfl
  have h2 := clear (k := 2) rfl
  have h4 := clear (k := 4) rfl
  have h6 := clear (k := 6) rfl
  have h7 := clear (k := 7) rfl
  rw [byte_eq_sum_of_bits (loByte f.pack)]
  simp [loByte_getLsbD, Flags.pack_getLsbD, h0, h2, h4, h6, h7, -BitVec.getLsbD_eq_getElem]

/-- Settles O56: SAHF is one write of the flag fields; the byte LAHF loads is R33's packed word cut to 8 bits. -/
theorem sahfAndLahf : Obligations.SahfAndLahf := by
  refine ⟨decode_bare rfl, decode_bare rfl, fun s => ⟨rfl, fun hdisjoint => ?_⟩⟩
  refine completes_of_writeE8 rfl ?_
  rw [← loByte_pack hdisjoint]
  rfl

/-! ### Interrupt entry (R470 to R472, R506) -/

/-- R506: an instruction that is the entry through vector `n` and nothing else. -/
theorem enters_of_interrupt {i : Instr} {s : State} {n : Byte} (h : exec i s = .next (s.interrupt n)) : Enters n.toNat i s :=
  ⟨_, h, changed_interrupt s n, State.interrupt_flags s n⟩

/-- Settles O57: INT, INT3 and INTO are interrupt entries; with OF = 0 the last is the state itself. -/
theorem softwareInterrupts : Obligations.SoftwareInterrupts := by
  refine ⟨fun n => decode_imm8 rfl n, decode_bare rfl, decode_bare rfl, fun s => ⟨fun n => enters_of_interrupt rfl,
    enters_of_interrupt (n := 3) rfl, fun hof => enters_of_interrupt (n := 4) ?_, fun hof => ?_⟩⟩
  · exact congrArg Host.Outcome.next (if_pos hof)
  · exact congrArg Host.Outcome.next (if_neg (by rw [hof]; exact Bool.false_ne_true))

/-! ### Interrupt return (R474) -/

/-- R474: three pops through one SS. -/
theorem State.interruptReturn_words (s : State) : s.interruptReturn = { s with
    gpr := s.gpr.set .sp (s.gpr.sp + 6)
    ip := stackWord s 0
    seg := { s.seg with cs := stackWord s 1 }
    flags := Flags.unpack (stackWord s 2) } := by
  have hsp : s.gpr.sp + 2 + 2 + 2 = s.gpr.sp + 6 := by
    rw [BitVec.add_assoc, BitVec.add_assoc]
    rfl
  rw [State.interruptReturn_eq, hsp, State.top16_dropTop_dropTop, State.top16_dropTop, State.top16_eq_stackWord]

/-- Settles O58: IRET's three words, and the packed write of the third, which is read back exactly (R35). -/
theorem interruptReturn : Obligations.InterruptReturn := by
  refine ⟨decode_bare rfl, fun s => ⟨_, rfl, ?_, ?_⟩⟩
  · rw [State.interruptReturn_words]
    exact { changed_keep s with gpr := rfl, seg := rfl, ip := rfl }
  · rw [State.interruptReturn_words]
    exact ⟨Flags.pack_unpack _, Flags.unpack_other _⟩

/-! ### A push leaves the words above it (R340, R341) -/

/-- Two addresses that are `j` and `k` bytes from the start of one segment are different places of the array (R9, R63). -/
theorem State.mod_ramSize_ne (s : State) {base a b j k : Nat} (ha : a % 0x100000 = (base + j) % 0x100000)
    (hb : b % 0x100000 = (base + k) % 0x100000) (hj : j ≤ 0x10000) (hk : k ≤ 0x10000) (hne : j ≠ k) :
    a % s.ramSize ≠ b % s.ramSize := by
  obtain ⟨n, hn, hsize⟩ := ramSizeOf_isPow s.cfg.ramRequest
  have hdvd : 0x100000 ∣ s.ramSize := by
    rw [State.ramSize, hsize]
    exact Nat.pow_dvd_pow 2 hn
  intro heq
  have hmod : a % 0x100000 = b % 0x100000 := by rw [← Nat.mod_mod_of_dvd a hdvd, heq, Nat.mod_mod_of_dvd b hdvd]
  omega

/-- R62: the low byte of a word is at its offset. -/
theorem lowByteAddr_mod (seg off : Word) : translate seg off.toNat % 0x100000 = (seg.toNat * 16 + off.toNat) % 0x100000 := by
  have hoff := off.isLt
  unfold translate
  omega

/-- R62, R70: the high byte is at the offset above it, wrapped or, in 80186 mode, one above the segment. -/
theorem highByteAddr_mod (arch : Arch) (seg off : Word) : ∃ k ≤ 0x10000, k % 0x10000 = (off.toNat + 1) % 0x10000
    ∧ highByteAddr arch seg off % 0x100000 = (seg.toNat * 16 + k) % 0x100000 := by
  have hoff := off.isLt
  rw [highByteAddr_eq]
  unfold translate
  split_ifs
  · exact ⟨off.toNat + 1, by omega, rfl, by omega⟩
  · exact ⟨0, by omega, by omega, by omega⟩
  · exact ⟨0x10000, by omega, by omega, by omega⟩

/-- R71: a word store leaves a word that shares no offset with it, in both architecture modes. -/
theorem State.read16_write16_of_disjoint (s : State) (seg : Word) {off q : Word} (v : Word) (hne : q.toNat ≠ off.toNat)
    (habove : q.toNat ≠ (off.toNat + 1) % 0x10000) (hbelow : off.toNat ≠ (q.toNat + 1) % 0x10000) :
    (s.write16 seg off v).read16 seg q = s.read16 seg q := by
  obtain ⟨k, hk, hkmod, hkaddr⟩ := highByteAddr_mod s.cfg.arch seg off
  obtain ⟨j, hj, hjmod, hjaddr⟩ := highByteAddr_mod s.cfg.arch seg q
  have hcfg : (s.write16 seg off v).cfg = s.cfg := by
    obtain ⟨l, h⟩ := s.write16_eq seg off v
    rw [h]
  have hoff := off.isLt
  have hq := q.isLt
  have hlow := State.readByte_write16_of_ne s seg off v (q := translate seg q.toNat)
    (s.mod_ramSize_ne (lowByteAddr_mod seg q) (lowByteAddr_mod seg off) (by omega) (by omega) hne)
    (s.mod_ramSize_ne (lowByteAddr_mod seg q) hkaddr (by omega) hk (by omega))
  have hhigh := State.readByte_write16_of_ne s seg off v (q := highByteAddr s.cfg.arch seg q)
    (s.mod_ramSize_ne hjaddr (lowByteAddr_mod seg off) hj (by omega) (by omega))
    (s.mod_ramSize_ne hjaddr hkaddr hj hk (by omega))
  rw [State.read16, hcfg, hlow, hhigh, State.read16]

theorem stackWord_push16_zero (s : State) (v : Word) : stackWord (s.push16 v) 0 = v := by
  rw [← State.top16_eq_stackWord, State.top16_push16]

/-- What was on the stack is one word further from the top. -/
theorem stackWord_push16_succ (s : State) (v : Word) {k : Nat} (hk : k < 0x7FFF) :
    stackWord (s.push16 v) (k + 1) = stackWord s k := by
  have hoff (sp : Word) : sp - 2 + BitVec.ofNat 16 (2 * (k + 1)) = sp + BitVec.ofNat 16 (2 * k) := by bv_omega
  have hbelow (sp : Word) : (sp - 2).toNat = (sp.toNat + 0xFFFE) % 0x10000 := by bv_omega
  have hword (sp : Word) : (sp + BitVec.ofNat 16 (2 * k)).toNat = (sp.toNat + 2 * k) % 0x10000 := by simp
  have hsp := s.gpr.sp.isLt
  rw [stackWord, State.push16_seg, State.push16_gpr, Gpr.set, hoff]
  refine State.read16_write16_of_disjoint (s.setReg16 .sp (s.gpr.sp - 2)) s.seg.ss (off := s.gpr.sp - 2) v ?_ ?_ ?_
  all_goals
    rw [hbelow, hword]
    omega

/-! ### Interrupt and return (R473, R507) -/

/-- R506: after the entry the stack holds what the three pushes left there. -/
theorem stackWord_interrupt (s : State) (n : Byte) (k : Nat) :
    stackWord (s.interrupt n) k = stackWord (((s.push16 s.flags.pack).push16 s.seg.cs).push16 s.ip) k := by
  have hseg : (((s.push16 s.flags.pack).push16 s.seg.cs).push16 s.ip).seg = s.seg := by simp
  rw [State.interrupt_eq]
  revert hseg
  generalize ((s.push16 s.flags.pack).push16 s.seg.cs).push16 s.ip = t
  intro hseg
  rw [stackWord, stackWord, hseg]
  rfl

/-- R506: the three words, the one pushed last on top. -/
theorem stackWords_interrupt (s : State) (n : Byte) : stackWord (s.interrupt n) 0 = s.ip
    ∧ stackWord (s.interrupt n) 1 = s.seg.cs ∧ stackWord (s.interrupt n) 2 = s.flags.pack := by
  have above (t : State) (v : Word) (k : Nat) (hk : k < 2) : stackWord (t.push16 v) (k + 1) = stackWord t k :=
    stackWord_push16_succ t v (by omega)
  simp only [stackWord_interrupt]
  refine ⟨stackWord_push16_zero .., ?_, ?_⟩
  · rw [above _ _ 0 (by decide), stackWord_push16_zero]
  · rw [above _ _ 1 (by decide), above _ _ 0 (by decide), stackWord_push16_zero]

theorem State.interrupt_gpr (s : State) (n : Byte) : (s.interrupt n).gpr = s.gpr.set .sp (s.gpr.sp - 6) := by
  have hsp : s.gpr.sp - 2 - 2 - 2 = s.gpr.sp - 6 := by bv_omega
  rw [← hsp]
  exact (changed_interrupt s n).gpr

/-- Settles O59: IRET pops the three words the entry pushed, and unpacks the FLAGS word that was packed (R35). -/
theorem interruptThenReturnRestores : Obligations.InterruptThenReturnRestores := by
  intro s n hdisjoint
  obtain ⟨hip, hcs, hflags⟩ := stackWords_interrupt s n
  have hsp : s.gpr.sp - 6 + 6 = s.gpr.sp := BitVec.sub_add_cancel ..
  refine ⟨s.interrupt n, (s.interrupt n).interruptReturn, rfl, rfl, ?_⟩
  rw [State.interruptReturn_words, hip, hcs, hflags, State.interrupt_gpr, Gpr.set_set, (changed_interrupt s n).seg,
    Flags.unpack_pack _ hdisjoint]
  refine ⟨rfl, rfl, rfl, ?_⟩
  show s.gpr.set .sp (s.gpr.sp - 6 + 6) = s.gpr
  rw [hsp]
  rfl

/-! ### The Halt signal (R476) -/

theorem State.write8_halt (s : State) (seg off : Word) (v : Byte) : (s.write8 seg off v).halt = s.halt := by
  obtain ⟨l, h⟩ := s.write8_eq seg off v
  rw [h]

theorem State.write16_halt (s : State) (seg off v : Word) : (s.write16 seg off v).halt = s.halt := by
  obtain ⟨l, h⟩ := s.write16_eq seg off v
  rw [h]

theorem State.writeE8_halt (s : State) (o : Operand Reg8) (v : Byte) : (s.writeE8 o v).halt = s.halt := by
  obtain ⟨g, m, l, h⟩ := s.writeE8_eq o v
  rw [h]

theorem State.writeE16_halt (s : State) (o : Operand Reg16) (v : Word) : (s.writeE16 o v).halt = s.halt := by
  obtain ⟨g, m, l, h⟩ := s.writeE16_eq o v
  rw [h]

theorem State.push16_halt (s : State) (v : Word) : (s.push16 v).halt = s.halt := by
  obtain ⟨l, h⟩ := s.push16_eq v
  rw [h]

theorem divideInto8_halt (r : Option (Byte × Byte)) (s : State) : (divideInto8 r s).halt = s.halt := by
  cases r with
  | none => exact (changed_interrupt s 0).halt
  | some q => rfl

theorem divideInto16_halt (r : Option (Word × Word)) (s : State) : (divideInto16 r s).halt = s.halt := by
  cases r with
  | none => exact (changed_interrupt s 0).halt
  | some q => rfl

theorem shiftTo8_halt (op : ShiftOp) (n : Nat) (dst : Operand Reg8) (s : State) : (shiftTo8 op n dst s).halt = s.halt := by
  unfold shiftTo8
  split
  · rfl
  · exact State.writeE8_halt ..

theorem shiftTo16_halt (op : ShiftOp) (n : Nat) (dst : Operand Reg16) (s : State) : (shiftTo16 op n dst s).halt = s.halt := by
  unfold shiftTo16
  split
  · rfl
  · exact State.writeE16_halt ..

theorem pushOperand_halt (e : Rm Reg16) (s : State) : (pushOperand e s).halt = s.halt := by
  by_cases he : e = .reg .sp
  · subst he
    exact (congrArg State.halt (pushSp_eq s)).trans (State.push16_halt ..)
  · rw [pushOperand_of_ne_sp he]
    exact State.push16_halt ..

theorem jumpIf_halt (taken : Bool) (d : Byte) (s : State) : (jumpIf taken d s).halt = s.halt :=
  ((changed_keep s).jumpIf taken d).halt

/-- A string instruction leaves the Halt signal when its one iteration does (R372). -/
theorem repeatString_halt {iter : Word → State → State} (hiter : ∀ src u, (iter src u).halt = u.halt) (compares : Bool)
    (s : State) : (repeatString compares iter s).halt = s.halt := by
  have hloop (mode : RepMode) (later : Word) (n : Nat) (seg : Word) (t : State) :
      (repeatLoop compares mode iter later n seg t).halt = t.halt := by
    induction n generalizing seg t with
    | zero => rfl
    | succ n ih =>
      simp only [repeatLoop]
      split
      · exact hiter seg t
      · exact (ih later _).trans (hiter seg t)
  unfold repeatString
  split
  · exact hiter _ s
  · exact hloop ..

theorem halt_of_next {s t u : State} (h : (.next u : Result) = .next t) (hu : u.halt = s.halt) : t.halt = s.halt := by
  cases h
  exact hu

theorem halt_of_tier2 {s t u : State} {op : Byte} (h : s.tier2 op u = .next t) (hu : u.halt = s.halt) : t.halt = s.halt := by
  unfold State.tier2 at h
  split at h
  · cases h
  · exact halt_of_next h hu

/-- Every other instruction that completes leaves the Halt signal as it was. -/
theorem exec_halt_of_ne_hlt {i : Instr} {s t : State} (h : exec i s = .next t) (hi : i ≠ .hlt) : t.halt = s.halt := by
  cases i with
  -- the eight binary ALU operations (R175 to R189)
  | addEbGb | orEbGb | adcEbGb | sbbEbGb | andEbGb | subEbGb | xorEbGb | cmpEbGb
  | addGbEb | orGbEb | adcGbEb | sbbGbEb | andGbEb | subGbEb | xorGbEb | cmpGbEb
  | addAlIb | orAlIb | adcAlIb | sbbAlIb | andAlIb | subAlIb | xorAlIb | cmpAlIb
  | addEbIb | orEbIb | adcEbIb | sbbEbIb | andEbIb | subEbIb | xorEbIb | cmpEbIb
  | addEbIb82 | orEbIb82 | adcEbIb82 | sbbEbIb82 | andEbIb82 | subEbIb82 | xorEbIb82 | cmpEbIb82 =>
    exact halt_of_next h (changed_aluTo8 ..).halt
  | addEvGv | orEvGv | adcEvGv | sbbEvGv | andEvGv | subEvGv | xorEvGv | cmpEvGv
  | addGvEv | orGvEv | adcGvEv | sbbGvEv | andGvEv | subGvEv | xorGvEv | cmpGvEv
  | addAxIv | orAxIv | adcAxIv | sbbAxIv | andAxIv | subAxIv | xorAxIv | cmpAxIv
  | addEvIv | orEvIv | adcEvIv | sbbEvIv | andEvIv | subEvIv | xorEvIv | cmpEvIv
  | addEvIbs | orEvIbs | adcEvIbs | sbbEvIbs | andEvIbs | subEvIbs | xorEvIbs | cmpEvIbs =>
    exact halt_of_next h (changed_aluTo16 ..).halt
  -- shifts and rotates, divisions (R243 to R252, R275 to R278)
  | rolEb1 | rolEbCl | rorEb1 | rorEbCl | rclEb1 | rclEbCl | rcrEb1 | rcrEbCl
  | shlEb1 | shlEbCl | shrEb1 | shrEbCl | sarEb1 | sarEbCl => exact halt_of_next h (shiftTo8_halt ..)
  | rolEv1 | rolEvCl | rorEv1 | rorEvCl | rclEv1 | rclEvCl | rcrEv1 | rcrEvCl
  | shlEv1 | shlEvCl | shrEv1 | shrEvCl | sarEv1 | sarEvCl => exact halt_of_next h (shiftTo16_halt ..)
  | divEb | idivEb => exact halt_of_next h (divideInto8_halt ..)
  | divEv | idivEv => exact halt_of_next h (divideInto16_halt ..)
  -- registers, segment registers, IP, FLAGS, ports, draws and the decode context alone
  | daa | das | aaa | aas | mulEb | mulEv | imulEb | imulEv
  | movGbEb | movAlOb | movR8Ib | movGvEv | movAxOv | movR16Iv | leaGvM | movSwEw
  | inAlIb | inAlDx | inAxIb | inAxDx | outIbAl | outIbAx | outDxAl | outDxAx
  | popR16 | popEs | popSs | popDs | popf | jmpShort | jmpNear | jmpEv | jmpFar | jmpMp | retNear | retNearIw | retFar | retFarIw
  | clc | stc | cmc | cli | sti | cld | std | sahf | lahf | iret
  | prefixEs | prefixCs | prefixSs | prefixDs | lockF0 | lockF1 | repnz | repz => exact halt_of_next h rfl
  | testEbGb | testEvGv | testAlIb | testAxIv | testEbIb | testEvIv | incR16 | decR16 | aad | xchgAxCx | xchgAxDx | xchgAxBx
  | xchgAxSp | xchgAxBp | xchgAxSi | xchgAxDi | lesGvMp | ldsGvMp | xlat | cbw | cwd | nop => exact halt_of_tier2 h rfl
  -- operand writes and pushes (R300 to R312, R340 to R351)
  | movEbGb | movEbIb => exact halt_of_next h (State.writeE8_halt ..)
  | movEvGv | movEvIv | movEwSw => exact halt_of_next h (State.writeE16_halt ..)
  | movObAl => exact halt_of_next h (State.write8_halt ..)
  | movOvAx => exact halt_of_next h (State.write16_halt ..)
  | incEb | decEb | negEb | notEb | xchgEbGb => exact halt_of_tier2 h (State.writeE8_halt ..)
  | incEv | decEv | negEv | notEv | xchgEvGv | popEv => exact halt_of_tier2 h (State.writeE16_halt ..)
  | pushAx | pushCx | pushDx | pushBx | pushBp | pushSi | pushDi | pushEs | pushCs | pushSs | pushDs | pushf =>
    exact halt_of_next h (State.push16_halt ..)
  | pushSp => exact halt_of_next h (pushOperand_halt (.reg .sp) s)
  | pushEv => exact halt_of_tier2 h (pushOperand_halt ..)
  -- string instructions (R371 to R383)
  | movsb | stosb =>
    refine halt_of_next h (repeatString_halt ?_ ..)
    exact fun _ _ => State.write8_halt ..
  | movsw | stosw =>
    refine halt_of_next h (repeatString_halt ?_ ..)
    exact fun _ _ => State.write16_halt ..
  | lodsb | lodsw | cmpsb | cmpsw | scasb | scasw =>
    refine halt_of_next h (repeatString_halt ?_ ..)
    exact fun _ _ => rfl
  -- conditional jumps, loops and calls (R402 to R428)
  | jo | jno | jb | jnb | je | jne | jbe | jnbe | js | jns | jp | jnp | jl | jnl | jle | jnle | jcxz | loopne | loope | loop =>
    exact halt_of_next h (jumpIf_halt ..)
  | callNear | callEv => exact halt_of_next h (State.push16_halt ..)
  | callFar | callMp => exact halt_of_next h (changed_callFarTo ..).halt
  -- interrupt entry (R506)
  | intIb | int3 => exact halt_of_next h (changed_interrupt ..).halt
  | into =>
    refine halt_of_next h ?_
    split
    · exact (changed_interrupt s 4).halt
    · rfl
  | aam =>
    refine halt_of_tier2 h ?_
    split
    · exact (changed_interrupt s 0).halt
    · rfl
  | hlt => exact absurd rfl hi
  -- the two fatal decode errors (R501, R502) have no next state
  | unimplementedOpcode => cases h
  | invalidOperandEncoding =>
    simp only [exec, execInvalidOperandEncoding] at h
    split at h <;> cases h

/-- Settles O18: HLT sets the signal, and every other instruction leaves it clear. -/
theorem onlyHltHalts : Obligations.OnlyHltHalts := by
  intro i s t hs h
  by_cases hi : i = .hlt
  · subst hi
    cases h
    exact ⟨fun _ => rfl, fun _ => rfl⟩
  · rw [exec_halt_of_ne_hlt h hi, hs]
    exact ⟨nofun, fun hhlt => absurd hhlt hi⟩

end Sys2Proof.Machine
end

section
/-! PROOFS of the statements about what ends an instruction without a next state (R116 to R122, R500 to R502): the table of the malformed
combinations, and that nothing else stops. -/

open Sys2Proof.Claims

namespace Sys2Proof.Machine

/-! ### The table of R502 -/

/-- R502: the check on bytes is the table on numbers. -/
theorem isMalformed_iff (op m : Byte) : isMalformed op m = true ↔ malformed op.toNat (m.toNat / 64) (m.toNat / 8 % 8) := by
  have hmod : (m.extractLsb' 6 2).toNat = m.toNat / 64 := by
    have := m.isLt
    simp only [BitVec.extractLsb'_toNat, Nat.shiftRight_eq_div_pow]
    omega
  have hreg : (m.extractLsb' 3 3).toNat = m.toNat / 8 % 8 := by
    simp only [BitVec.extractLsb'_toNat, Nat.shiftRight_eq_div_pow]
  simp [isMalformed, malformed, BitVec.toNat_eq, BitVec.le_def, hmod, hreg, or_assoc, and_assoc, or_and_right]

/-- Settles O6: a decoded term of this kind is well formed and written as its own two bytes, and a listed pair is decoded to it. -/
theorem malformedEncodingsAreFatal : Obligations.MalformedEncodingsAreFatal := by
  have bytes {op m a b : Byte} {bs rest : List Byte} (h : decode (op :: m :: bs) = .ok (.invalidOperandEncoding a b, rest)) :
      isMalformed a b = true ∧ a = op ∧ b = m := by
    obtain ⟨hwf, hbytes⟩ := encode_of_decode h
    obtain ⟨hop, htail⟩ := List.cons.inj hbytes
    exact ⟨hwf, hop, (List.cons.inj htail).1⟩
  refine ⟨fun op m bs _ => ⟨?_, fun h => ?_⟩, fun _ _ _ _ _ _ h => (bytes h).2, fun op m s => ?_⟩
  · rintro ⟨a, b, rest, h⟩
    obtain ⟨hmalformed, rfl, rfl⟩ := bytes h
    exact (isMalformed_iff a b).mp hmalformed
  · exact ⟨op, m, bs, decode_malformed ((isMalformed_iff op m).mpr h) bs⟩
  · have hcond : (isTier2Only op && s.cfg.strictSourceSet) = true
        ↔ s.cfg.strictSourceSet = true ∧ (op = 0x8F ∨ op = 0xC4 ∨ op = 0xC5 ∨ op = 0xFE) := by
      simp [isTier2Only, or_assoc, and_comm]
    show (if _ then _ else _) = _
    simp only [hcond]
    rfl

/-! ### Nothing else stops (R500) -/

theorem exec_ne_next_of_selectsNone {i : Instr} (h : selectsNone i = true) (s t : State) : exec i s ≠ .next t := by
  cases i with
  | unimplementedOpcode op => exact nofun
  | invalidOperandEncoding op m =>
    rw [exec, execInvalidOperandEncoding]
    split <;> exact nofun
  | _ => cases h

/-- An instruction, not a tier 2 one under STRICT_SOURCE_SET, completes. -/
theorem exec_eq_next {i : Instr} {s : State} (hsome : selectsNone i = false)
    (h : tierTwo i = true → s.cfg.strictSourceSet = false) : ∃ t, exec i s = .next t := by
  cases i with
  | unimplementedOpcode | invalidOperandEncoding => cases hsome
  | testEbGb | testEvGv | testAlIb | testAxIv | testEbIb | testEvIv | incR16 | incEb | incEv | decR16 | decEb | decEv | notEb | notEv
  | negEb | negEv | xchgEbGb | xchgEvGv | xchgAxCx | xchgAxDx | xchgAxBx | xchgAxSp | xchgAxBp | xchgAxSi | xchgAxDi | nop | pushEv
  | popEv | cbw | cwd | lesGvMp | ldsGvMp | aam | aad | xlat => exact ⟨_, State.tier2_of_not_strict (h rfl) _ _⟩
  | _ => exact ⟨_, rfl⟩

/-- Settles O11: with O10, the two terms and the tier 2 instructions are the only ones with a fault among their outcomes. -/
theorem nothingElseStops : Obligations.NothingElseStops := by
  intro i s
  refine ⟨fun ⟨t, ht⟩ => ⟨?_, fun htier => ?_⟩, fun ⟨hsome, h⟩ => exec_eq_next hsome h⟩
  · exact Bool.eq_false_iff.mpr fun hnone => exec_ne_next_of_selectsNone hnone s t ht
  · refine Bool.eq_false_iff.mpr fun hstrict => ?_
    rw [tierTwoUnderStrictSourceSet i s htier hstrict] at ht
    cases ht

end Sys2Proof.Machine
end
